-- ==== Sys2Proof/Word.lean ====
section
/-! DEFINITION. The byte of the counter link and the position number of the carousel. -/

namespace Sys2Proof

/-- One byte of the counter link (R157). -/
abbrev Byte := BitVec 8

/-- One of the 24 carousel places, 0 to 23 (R54). -/
abbrev Position := Fin 24

/-- One of the 6 outlet lanes; lane n of the spec is index n - 1 (section 8.5). -/
abbrev Lane := Fin 6

end Sys2Proof
end

