-- ==== Sys2Proof/Syntax.lean ====
section
/-! DEFINITION. The commands of the part: one constructor of `Instr` for each row of the table of operations
and events, with the operands the row's event brings. -/

namespace Sys2Proof

/-- Size classes of a tin (00_scope.md, Conventions). -/
inductive TinClass where
  | A | B | C | D | E
  deriving DecidableEq, Repr

/-- The two mixing bays (chapter 7). -/
inductive BayId where
  | one | two
  deriving DecidableEq, Repr

/-- The places a tin can be carried to; also the stations a fault record can name (R6, section 7.1). -/
inductive Dest where
  | dispense
  | bay (b : BayId)
  | lidder
  | outlet
  deriving DecidableEq, Repr

/-- The requests the conveyor keeps for a later start (R113): the intake's, the dispense station's for a
bay, the lidder's for an outlet lane. The lidder's own choice of a source starts at once (R131). -/
inductive TransferRequest where
  | intake | station | lidder
  deriving DecidableEq, Repr

/-- The actions of RESOLVE, in the order of the table of R155. -/
inductive Action where
  | retryShot | skipShot | accept | retry | confirm | pass | scrap | remake | cancel | release
  deriving DecidableEq, Repr

/-- The readings of step 1 of start-up (R175), with the two input lines the link and the carousel read. -/
structure Sensors where
  intake : Bool
  intakeClass : TinClass
  intakeLid : Bool
  dispense : Bool
  dispenseClass : TinClass
  dispenseLid : Bool
  bayOne : Bool
  bayTwo : Bool
  clampOne : Bool
  clampTwo : Bool
  lidder : Bool
  lanes : Vector Bool 6
  seated : Vector Bool 24
  scaleFault : Bool
  chainOpen : Bool
  homeMark : Bool
  cts : Bool
  deriving DecidableEq, Repr

/-- The commands. A request carries the tag and the payload of its frame (R158); an event carries what the
input it reports shows (log 27): `count` is the encoder count at a stop, absent when none is given, and
`travelled` the places the drive has counted of a move in progress. -/
inductive Instr where
  -- requests of the link controller
  | ident (tag : Byte) (payload : List Byte)
  | status (tag : Byte) (payload : List Byte)
  -- requests of the order book
  | orderSubmit (tag : Byte) (payload : List Byte)
  | orderQuery (tag : Byte) (payload : List Byte)
  | orderCancel (tag : Byte) (payload : List Byte)
  | orderCorrect (tag : Byte) (payload : List Byte)
  | orderApprove (tag : Byte) (payload : List Byte)
  | orderResume (tag : Byte) (payload : List Byte)
  | resolveRetryShot (tag : Byte) (payload : List Byte)
  | resolveSkipShot (tag : Byte) (payload : List Byte)
  | resolveAccept (tag : Byte) (payload : List Byte)
  | resolveRetry (tag : Byte) (payload : List Byte)
  | resolveConfirm (tag : Byte) (payload : List Byte)
  | resolvePass (tag : Byte) (payload : List Byte)
  | resolveScrap (tag : Byte) (payload : List Byte)
  | resolveRemake (tag : Byte) (payload : List Byte)
  | resolveCancel (tag : Byte) (payload : List Byte)
  | resolveRelease (tag : Byte) (payload : List Byte)
  -- requests of the dispense station and the plan builder
  | manualDone (tag : Byte) (payload : List Byte)
  | manualSkip (tag : Byte) (payload : List Byte)
  | planPreview (tag : Byte) (payload : List Byte)
  -- requests of the tables
  | canisterSet (tag : Byte) (payload : List Byte)
  | canisterQuery (tag : Byte) (payload : List Byte)
  | canisterRefill (tag : Byte) (payload : List Byte)
  | canisterClear (tag : Byte) (payload : List Byte)
  | classSet (tag : Byte) (payload : List Byte)
  | classQuery (tag : Byte) (payload : List Byte)
  | lidsLoaded (tag : Byte) (payload : List Byte)
  -- requests of the line mode unit
  | lineRun (tag : Byte) (payload : List Byte)
  | linePause (tag : Byte) (payload : List Byte)
  | lineService (tag : Byte) (payload : List Byte)
  | stopReset (tag : Byte) (payload : List Byte)
  | clearLine (tag : Byte) (payload : List Byte)
  -- settings and the flash store
  | settingsSet (tag : Byte) (payload : List Byte)
  | settingsQuery (tag : Byte) (payload : List Byte)
  | storeSave (tag : Byte) (payload : List Byte)
  | unknownKindRequest (kind tag : Byte) (payload : List Byte)
  -- link events; `bytes` are the bytes that arrived since the event before
  | frameReceived (bytes : List Byte)
  | frameGapTimeout (bytes : List Byte)
  | ctsChange (asserted : Bool)
  | transmitEnd
  -- line events
  | pauseComplete
  | estopChainOpen (count : Option Nat) (travelled : Nat)
  | estopChainClose
  -- intake
  | intakeTinPlaced (cls : TinClass) (lidded : Bool)
  | intakeBindRetry
  | intakeTinLifted
  -- conveyor; the readings are those of the dispense station's sensors
  | transferStart (source : TransferRequest)
  | transferArrival (dest : Dest) (cls : TinClass) (lidded : Bool)
  | transferTimeout (dest : Dest)
  -- dispense station and weigh cell
  | dispensePresenceRise (cls : TinClass) (lidded : Bool)
  | dispensePresenceFall
  | weighSample (mass : Nat) (outOfRange : Bool)
  | settledReading
  | settleWindowTimeout
  | scaleFaultLineChange (asserted : Bool)
  | dispenseResumeOperation
  -- carousel and pump
  | moveArrived
  | moveTimeout (travelled : Nat)
  | homePass (onMark : Bool) (count : Option Nat)
  | homingComplete
  | homingTimeout
  | pumpComplete (count : Option Nat)
  | strokeTimeout (count : Option Nat)
  | seatedSwitchOpen (pos : Position) (count : Option Nat)
  | seatedSwitchClose (pos : Position)
  -- mixing bays
  | bayPresenceRise (bay : BayId)
  | bayPresenceFall (bay : BayId)
  | bayBeginOperation (bay : BayId)
  | bayClampClosedRise (bay : BayId)
  | bayClampTimeout (bay : BayId)
  | baySpinEnd (bay : BayId)
  | bayImbalanceTrip (bay : BayId)
  | bayClampClosedFall (bay : BayId)
  | bayBrakeEnd (bay : BayId)
  | bayUnclampTimeout (bay : BayId)
  -- lidder
  | lidderTakeSource
  | lidderBeginPlacing (magazineEmpty : Bool)
  | lidPlaced
  | lidPlaceTimeout
  | pressComplete (seated : Bool)
  | lidderPresenceRise
  | lidderPresenceFall
  -- outlet
  | lanePresenceRise (lane : Lane)
  | lanePresenceFall (lane : Lane)
  -- supply
  | supplyWarning (count : Option Nat) (travelled : Nat)
  | startUp (sensors : Sensors) (checksumMatches : Bool) (stepsBeforeWarning : Option (Fin 5))
  | storeSaveEnd (verified : Bool)
  | lengthByteOver240 (bytes : List Byte)
  deriving DecidableEq, Repr

end Sys2Proof
end

