-- ==== Sys2Proof/Decode.lean ====
section
/-! DEFINITION. The table's words (it gives no row any bits), the byte order of the link, the request kinds
and the codes of the small enumerations a payload carries. -/

namespace Sys2Proof

/-- The command a word of the table spells. spec/opcode_table.json gives no row any bits, so no word spells
a command. -/
def decodeTableWord (_nbits _w : Nat) : Option Instr := none

namespace Bytes

/-- The quantity a run of bytes spells, high byte first (R168). -/
def toNat (bs : List Byte) : Nat := bs.foldl (fun acc b => acc * 256 + b.toNat) 0

/-- The quantity of `n` bytes at offset `i` of a payload, high byte first (R168). -/
def field (bs : List Byte) (i n : Nat) : Nat := toNat ((bs.drop i).take n)

/-- A quantity as `n` bytes, high byte first (R168). -/
def ofNat : Nat → Nat → List Byte
  | 0, _ => []
  | n + 1, v => ofNat n (v / 256) ++ [BitVec.ofNat 8 v]

/-- Bit `k` of the byte at offset `i`. -/
def bit (bs : List Byte) (i k : Nat) : Bool := (field bs i 1).testBit k

end Bytes

/-- The request kinds of the catalogue of section 10.5. -/
def catalogue : List Byte :=
  [0x01, 0x02, 0x10, 0x11, 0x12, 0x13, 0x14, 0x15, 0x16, 0x17, 0x18, 0x20, 0x21, 0x22, 0x23, 0x24, 0x25,
   0x30, 0x40, 0x41, 0x42, 0x43, 0x44, 0x50, 0x51, 0x60]

/-- Tin classes are sent as 1 to 5 (R168). -/
def TinClass.ofCode : Nat → Option TinClass
  | 1 => some .A
  | 2 => some .B
  | 3 => some .C
  | 4 => some .D
  | 5 => some .E
  | _ => none

/-- Tin classes are sent as 1 to 5 (R168). -/
def TinClass.code : TinClass → Nat
  | .A => 1
  | .B => 2
  | .C => 3
  | .D => 4
  | .E => 5

/-- The action byte of a RESOLVE payload (DESIGN CHOICE, log 5): the order of the table of R155. -/
def Action.ofCode : Nat → Option Action
  | 0 => some .retryShot
  | 1 => some .skipShot
  | 2 => some .accept
  | 3 => some .retry
  | 4 => some .confirm
  | 5 => some .pass
  | 6 => some .scrap
  | 7 => some .remake
  | 8 => some .cancel
  | 9 => some .release
  | _ => none

/-- The action byte of a RESOLVE payload (DESIGN CHOICE, log 5). -/
def Action.code : Action → Nat
  | .retryShot => 0
  | .skipShot => 1
  | .accept => 2
  | .retry => 3
  | .confirm => 4
  | .pass => 5
  | .scrap => 6
  | .remake => 7
  | .cancel => 8
  | .release => 9

/-- Whether a RESOLVE payload is this row's: its action byte names the row's action, or no action at all,
or the payload is too short to carry one (log 34). -/
def Action.owns (a : Action) (payload : List Byte) : Bool :=
  payload.length != 3 || match Action.ofCode (Bytes.field payload 2 1) with
    | some b => b == a
    | none => true

/-- The length of a MANUAL_DONE payload (DESIGN CHOICE, log 5): order number, entry index, a byte with the
skip flag (bit 0) and the presence of a mass (bit 1), and the mass. -/
def manualLength : Nat := 8

/-- Whether a MANUAL_DONE payload has its skip flag set, which makes it MANUAL_SKIP (R90). -/
def manualSkipFlag (payload : List Byte) : Bool := Bytes.bit payload 3 0

end Sys2Proof
end

