-- ==== Sys2Proof/Config.lean ====
section
/-! DEFINITION. What the part fixes, the numbers the spec states for it, and the values it leaves open. -/

namespace Sys2Proof.Config

/-- Most live orders in the order book (R1). -/
def maxOrders : Nat := 32

/-- The admission count at which no further order is accepted (R2). -/
def admissionLimit : Nat := 4294967295

/-- Most requests in the input queue (R160). -/
def inputQueueSize : Nat := 4

/-- Most notices in the notice queue (R163). -/
def noticeQueueSize : Nat := 64

/-- The ATTENTION and FAULT count at which the notice queue is congested (R165). -/
def congestionCount : Nat := 48

/-- The notice count from which the BACKLOG line flag is set (R161). -/
def backlogCount : Nat := 32

/-- A step count above this makes a line LINE_TOO_LARGE (R26). -/
def maxSteps : Nat := 5000000

/-- The samples that cover 400 ms (R99). -/
def settleSamples : Nat := 16

/-- The widest spread of a stable span, in mg (R99). -/
def settleBand : Nat := 20

/-- The largest mass a sample or a host mass may have, in mg (R89, R98). -/
def maxMass : Nat := 30000000

/-- Lids a magazine holds at most (R135). -/
def maxLids : Nat := 80

/-- The hardware revision byte of the IDENT reply: R166 names it and gives no value (log 26). -/
opaque hardwareRevision : Byte

/-- The firmware revision byte of the IDENT reply: R166 names it and gives no value (log 26). -/
opaque firmwareRevision : Byte

/-- The draws for choices the spec leaves open, numbered by `State.freeCount` (log 40): the order in
which the blocks append at an e-stop (log 9), how far a move in progress has counted (log 10), and the
volume of a repeated manual step without a density (log 18). -/
opaque freeValue : Nat → Nat

end Sys2Proof.Config
end

