-- ==== Sys2Proof/Machine/State.lean ====
section
/-! DEFINITION. The state of the controller as plain data, block by block, and the state after reset. -/

namespace Sys2Proof.Machine

/-! ## Orders (chapter 1) -/

/-- Mix profiles 0 to 3 (section 7.7). -/
inductive MixProfile where
  | standard | long | gentle | short
  deriving DecidableEq, Repr

/-- The twelve order states (section 1.3). -/
inductive OrderState where
  | queued | bound | dispensing | manual | held | dispensed | mixing | lidding | outlet | check | returning
  | interrupted
  deriving DecidableEq, Repr

/-- The pending end of an order (section 1.2). -/
inductive PendingEnd where
  | cancelled | scrapped
  deriving DecidableEq, Repr

/-- The reasons an order is freed with (R20). -/
inductive EndReason where
  | collected | cancelled | scrapped | released
  deriving DecidableEq, Repr

/-- The fault kinds of R153. -/
inductive FaultKind where
  | under | over | stall | sensor | unweighed | unseated | lost | plan | lidded | jam | clamp | imbalance
  | seat | estop
  deriving DecidableEq, Repr

/-- One formula line: the index it was sent at, its colourant code and its amount in cmL (R3). -/
structure FormulaLine where
  index : Nat
  code : Nat
  amount : Nat
  deriving DecidableEq, Repr

/-- A round: its merged lines, and whether it is DELIVERED rather than OPEN (R3). -/
structure Round where
  lines : List FormulaLine
  delivered : Bool
  deriving DecidableEq, Repr

/-- The stations that still have work on a tin (R7). -/
structure Route where
  dispense : Bool
  mix : Bool
  lid : Bool
  deriving DecidableEq, Repr

/-- The order flags (R4). -/
structure OrderFlags where
  clamped : Bool := false
  unweighed : Bool := false
  uncounted : Bool := false
  manualUsed : Bool := false
  manualSkipped : Bool := false
  overAccepted : Bool := false
  amountUnknown : Bool := false
  lidded : Bool := false
  deriving DecidableEq, Repr

/-- The fault record of a HELD order (R6). -/
structure FaultRecord where
  station : Dest
  kind : FaultKind
  onTransfer : Bool
  entry : Option Nat
  allowed : List Action
  deriving DecidableEq, Repr

/-! ## Plans (chapter 4) -/

/-- The states of a plan entry (R61). -/
inductive EntryState where
  | pending | active | done | skipped | failed | partialShot
  deriving DecidableEq, Repr

/-- The flags of a plan entry (section 4.1). -/
structure EntryFlags where
  trimmed : Bool := false
  clampedUp : Bool := false
  splitPrimary : Bool := false
  splitReserve : Bool := false
  late : Bool := false
  weigh : Bool := false
  manual : Bool := false
  topupManual : Bool := false
  recalibrated : Bool := false
  deriving DecidableEq, Repr

/-- The record of one line of a plan (section 4.1). -/
structure LineRecord where
  index : Nat
  code : Nat
  amount : Nat
  required : Nat
  firstPos : Option Position
  firstMark : Nat
  steps : Option Nat
  late : Bool
  gentle : Bool
  weigh : Bool
  deriving DecidableEq, Repr

/-- A target mass with its tolerance, in mg. -/
structure Target where
  mass : Nat
  tol : Nat
  deriving DecidableEq, Repr

/-- The remainder of an entry begun and left: its target and its strokes (R38). -/
structure Remainder where
  target : Target
  strokes : List Nat
  deriving DecidableEq, Repr

/-- A plan entry; its index is its place in the plan's list (section 4.1). `owed` is the remainder computed at
take-up or at a retry, until the entry is served (R38, R69). -/
structure Entry where
  round : Nat
  line : Nat
  code : Nat
  pos : Option Position
  mark : Nat
  d : Nat
  rho : Nat
  steps : Nat
  strokes : Nat
  volume : Nat
  mass : Option Nat
  tol : Nat
  flags : EntryFlags
  state : EntryState
  delivered : Nat := 0
  deliveredVolume : Nat := 0
  topup : Nat := 0
  measured : Option Nat := none
  additionGiven : Bool := false
  owed : Option Remainder := none
  deriving DecidableEq, Repr

/-- The plan context, or a partial plan (section 4.4). `resetDue` holds between REMAKE and the reset
of R72. -/
structure PlanContext where
  order : Nat
  round : Nat
  lines : List LineRecord
  entries : List Entry
  gentle : Bool
  sum : Nat
  available : Nat
  resetDue : Bool := false
  deriving DecidableEq, Repr

/-- An order record (section 1.2). -/
structure Order where
  number : Nat
  admission : Nat
  rush : Bool
  cls : TinClass
  fill : Nat
  vref : Nat
  strength : Nat
  profile : MixProfile
  holdOpen : Bool
  rounds : List Round
  state : OrderState
  beforeHold : Option OrderState
  tin : Option Nat
  route : Route
  lidOnly : Bool
  fromSlot : Bool
  delivered : Nat
  flags : OrderFlags
  pendingEnd : Option PendingEnd
  partialPlan : Option PlanContext
  fault : Option FaultRecord
  deriving DecidableEq, Repr

/-- The order book's own state (chapter 1). `admission` is the count given at the previous acceptance
and `lastTin` the last tin id assigned, each 0 when none has been given. -/
structure Book where
  orders : List Order
  admission : Nat
  lastTin : Nat
  slot : Option Nat
  deriving DecidableEq, Repr

/-! ## Intake (section 1.5) -/

/-- The intake states. -/
inductive IntakeState where
  | empty | waiting | bound | refused | clearing
  deriving DecidableEq, Repr

/-- Why a tin is REFUSED (R11, R12). -/
inductive RefusedReason where
  | lidded | noOrderForTin
  deriving DecidableEq, Repr

/-- The intake: its state, the readings of the tin that stands, the order bound and its presence sensor. -/
structure Intake where
  state : IntakeState
  cls : TinClass
  lidded : Bool
  reason : RefusedReason
  bound : Option Nat
  present : Bool
  deriving DecidableEq, Repr

/-! ## Canisters, classes and the carousel (chapter 3) -/

/-- The two roles of a canister. -/
inductive Role where
  | primary | reserve
  deriving DecidableEq, Repr

/-- A canister record (section 3.1); `drawing` is the in-progress mark of R40. -/
structure Canister where
  code : Nat := 0
  role : Role := .primary
  d : Nat := 0
  rho : Nat := 0
  c : Nat := 0
  m : Nat := 0
  capacity : Nat := 0
  floor : Nat := 0
  low : Nat := 0
  level : Nat := 0
  seated : Bool := false
  confirmed : Bool := false
  lowArmed : Bool := false
  dryArmed : Bool := false
  mark : Nat := 0
  drawing : Bool := false
  deriving DecidableEq, Repr

/-- The conditions of R39. -/
inductive Condition where
  | ok | low | dry
  deriving DecidableEq, Repr

/-- The canister table's findings of the stroke-start check (R40). -/
inductive Finding where
  | ready | changed | unseated | unconfirmed | short
  deriving DecidableEq, Repr

/-- One class table entry (R52). -/
structure ClassEntry where
  enabled : Bool := false
  first : Nat := 1
  last : Nat := 1
  late : Bool := false
  gentle : Bool := false
  hold : Bool := false
  weigh : Bool := false
  deriving DecidableEq, Repr

/-- The positioner states (section 3.5). -/
inductive PositionerState where
  | unhomed | homing | homed | moving | lost | failed
  deriving DecidableEq, Repr

/-- The direction of a move (R55). -/
inductive Direction where
  | forward | backward
  deriving DecidableEq, Repr

/-- The move record (section 3.5). -/
structure MoveRecord where
  origin : Position
  target : Position
  direction : Direction
  places : Nat
  expected : Nat
  passes : Nat
  deriving DecidableEq, Repr

/-- The positioner. `markSeen` holds once a homing has seen the mark (R54, logs 11 and 61); `onMark` is the level of the
home sensor as last shown (log 11). -/
structure Positioner where
  state : PositionerState
  position : Position
  move : Option MoveRecord
  markSeen : Bool
  onMark : Bool
  deriving DecidableEq, Repr

/-! ## The dispense station (chapter 5) -/

/-- The seventeen station states (section 5.1). -/
inductive StationState where
  | idle | receiving | taring | planning | moving | stroking | settling | verifying | waitCanister
  | awaitManual | pausedHold | faultHeld | complete | sending | awaitRemakeTin | clearing | halted
  deriving DecidableEq, Repr

/-- The operations a station waits to begin (R77, R87, R92): the next entry, the tare, the settle before
a phase, the stroke-start check, the verdict of a phase, the manual step again, homing and then the
current entry, the top-up of the current entry, and the current entry from its move. -/
inductive ResumePoint where
  | next | tare | startReading | strokeCheck | verdict | manualStep | homing | topup | serve
  deriving DecidableEq, Repr

/-- What a settle in progress is for (R99). -/
inductive SettlePurpose where
  | tare | phaseStart | verdict
  deriving DecidableEq, Repr

/-- The phases of an entry (section 5.1). -/
inductive Phase where
  | shot | topup | remainder | manual
  deriving DecidableEq, Repr

/-- The tin context (section 4.4): `last` is the last settled reading on the tin (R101) and `entryStart`
the reading at which the current entry or manual step began. -/
structure TinContext where
  id : Nat
  cls : TinClass
  tare : Option Nat
  last : Option Nat
  entryStart : Option Nat
  lid : Bool
  deriving DecidableEq, Repr

/-- The current entry record (section 5.1). `hostMass` is the mass of the MANUAL_DONE being measured (R89, log 60),
`delivered` the delivered steps of the phase, which SHOT_DONE reports (R83), and `lowered` the mass by which the
target stands lowered for an addition given to this entry (R37, R85). -/
structure CurrentEntry where
  index : Nat
  phase : Phase
  target : Option Target
  judged : Nat
  carried : Nat
  start : Option Nat
  strokes : List Nat
  ended : Nat
  counted : Nat
  delivered : Nat
  countPresent : Bool
  topupUsed : Bool
  hostMass : Option Nat
  lowered : Nat := 0
  deriving DecidableEq, Repr

/-- The dispense station. -/
structure Station where
  state : StationState
  order : Option Nat
  resume : Option ResumePoint
  tin : Option TinContext
  plan : Option PlanContext
  cur : Option CurrentEntry
  freshNeeded : Bool
  settleFor : SettlePurpose
  finding : Option Finding
  arrivalWaits : Bool
  awaitHoming : Bool
  gentle : Bool
  present : Bool
  size : TinClass
  lid : Bool
  deriving DecidableEq, Repr

/-! ## The weigh cell and the settings (chapter 6) -/

/-- The weigh cell. `span` holds the stable span, newest sample first (R99). -/
structure WeighCell where
  settling : Bool
  window : Nat
  span : List Nat
  fault : Bool
  last : Option Nat
  deriving DecidableEq, Repr

/-- The seven settings (R110, R167). -/
structure Settings where
  tolAbs : Nat
  tolPm : Nat
  window : Nat
  standard : Nat
  long : Nat
  gentle : Nat
  short : Nat
  deriving DecidableEq, Repr

/-! ## Conveyor and bays (chapter 7) -/

/-- The sources of a transfer (section 7.1). -/
inductive Source where
  | intake | dispense | bay (b : BayId) | lidder
  deriving DecidableEq, Repr

/-- The states of a transfer record (R112). -/
inductive TransferState where
  | running | jammed | halted
  deriving DecidableEq, Repr

/-- A transfer record (section 7.1). The timer runs exactly in RUNNING. `retried` holds once RETRY has been
taken on a HALTED record (R118), `sourceWaits` while the source still waits for the end (R115, R116);
`tinContext` and `gentle` travel with the tin (R91, R115). -/
structure Transfer where
  source : Source
  order : Nat
  tin : Nat
  lane : Option Lane
  state : TransferState
  arrived : Bool
  retried : Bool
  sourceWaits : Bool
  tinContext : Option TinContext
  gentle : Bool
  deriving DecidableEq, Repr

/-- The conveyor: one record at most for each destination, and the outstanding requests (R112, R113). -/
structure Conveyor where
  toDispense : Option Transfer
  toBayOne : Option Transfer
  toBayTwo : Option Transfer
  toLidder : Option Transfer
  toOutlet : Option Transfer
  intakeRequest : Bool
  stationRequest : Bool
  outletRequest : Bool
  deriving DecidableEq, Repr

/-- The bay states (section 7.7). -/
inductive BayState where
  | empty | loading | clamping | spinning | braking | unclamping | ready | fault | halted | clearing
  deriving DecidableEq, Repr

/-- Why a bay brakes (section 7.7). -/
inductive BrakeCause where
  | spinEnd | imbalance | clamp
  deriving DecidableEq, Repr

/-- The clamp output of a bay. -/
inductive ClampDrive where
  | opened | closed | stopped
  deriving DecidableEq, Repr

/-- The order number and tin id of a tin at a bay, the lidder or a lane. -/
structure TinRef where
  order : Nat
  tin : Nat
  deriving DecidableEq, Repr

/-- The profile in force and its duration in s (R123). -/
structure ProfileInForce where
  profile : MixProfile
  seconds : Nat
  deriving DecidableEq, Repr

/-- A mixing bay (section 7.7); `present` and `clampClosed` are its inputs, `clamp` and `brake` outputs;
the spin output is on exactly in SPINNING. -/
structure Bay where
  state : BayState
  reservation : Option TinRef
  tin : Option TinRef
  orderProfile : MixProfile
  inForce : Option ProfileInForce
  gentle : Bool
  mixDone : Bool
  cause : Option BrakeCause
  emptySince : Nat
  clamp : ClampDrive
  brake : Bool
  present : Bool
  clampClosed : Bool
  deriving DecidableEq, Repr

/-! ## Lidder and outlet (chapter 8) -/

/-- The lidder states (section 8.1). -/
inductive LidderState where
  | idle | receiving | placing | pressing | checking | dischargeWait | sending | waitLids | fault | halted
  | clearing
  deriving DecidableEq, Repr

/-- The sources of the lidder's requester list (R131). -/
inductive LidSource where
  | bay (b : BayId) | dispense
  deriving DecidableEq, Repr

/-- The lidder's resume point (section 8.1). -/
inductive LidResume where
  | place | press
  deriving DecidableEq, Repr

/-- The tin on the lidder. -/
structure LidderTin where
  order : Nat
  tin : Nat
  cls : TinClass
  deriving DecidableEq, Repr

/-- The five lid magazine counts (R135). -/
structure Magazines where
  a : Nat
  b : Nat
  c : Nat
  d : Nat
  e : Nat
  deriving DecidableEq, Repr

/-- The lidder. `loaded` holds in WAIT_LIDS once LIDS_LOADED has been taken for the waiting class (R134). -/
structure Lidder where
  state : LidderState
  requesters : List LidSource
  reserved : Option TinRef
  tin : Option LidderTin
  arrived : Bool
  lidOn : Bool
  repressUsed : Bool
  resume : Option LidResume
  loaded : Bool
  magazines : Magazines
  present : Bool
  deriving DecidableEq, Repr

/-- The lane states (section 8.5). -/
inductive LaneState where
  | empty | reserved | collect | check | clearing
  deriving DecidableEq, Repr

/-- One outlet lane with its presence sensor. -/
structure LaneRecord where
  state : LaneState
  tin : Option TinRef
  present : Bool
  deriving DecidableEq, Repr

/-! ## Line mode unit (chapter 9) -/

/-- The line modes. -/
inductive LineMode where
  | paused | running | service | stopped
  deriving DecidableEq, Repr

/-- The pending mode request, when there is one. -/
inductive PendingMode where
  | run | pause
  deriving DecidableEq, Repr

/-- The line mode unit. -/
structure LineUnit where
  mode : LineMode
  pendingMode : Option PendingMode
  latch : Bool
  chainOpen : Bool
  deriving DecidableEq, Repr

/-- A station lamp (R152). -/
inductive Lamp where
  | off | steady | slow | fast
  deriving DecidableEq, Repr

/-! ## Notices (sections 10.4, 10.5) -/

/-- The classes of a notice. -/
inductive NoticeClass where
  | progress | attention | fault
  deriving DecidableEq, Repr

/-- The verdicts of R83. -/
inductive Verdict where
  | pass | under | over | stall | sensor | unweighed
  deriving DecidableEq, Repr

/-- What a STATION_FAULT carries beside the fault (R67, R86). -/
inductive FaultDetail where
  | none
  | mass (judged : Nat) (target : Option Target)
  | line (index : Nat)
  | sums (sum available : Nat)
  deriving DecidableEq, Repr

/-- The station an intake notice names (section 10.5). -/
inductive NoticeStation where
  | intake | dispense
  deriving DecidableEq, Repr

/-- The contents of a notice, one constructor for each kind of section 10.5. -/
inductive NoticeBody where
  | orderState (order : Nat) (state : OrderState) (tin : Nat) (pendingEnd : Option PendingEnd)
  | shotDone (order entry : Nat) (phase : Phase) (verdict : Verdict) (commanded delivered : Nat)
      (judged : Option Nat) (target : Option Target)
  | tinReady (order tin : Nat) (lane : Lane) (lidded : Bool)
  | orderEnded (order admission : Nat) (reason : EndReason) (delivered : Nat)
  | lineMode (mode : LineMode) (pendingMode : Option PendingMode)
  | storeSaved (ok : Bool)
  | started (warm clean : Bool)
  | manualStep (order entry code volume mass round : Nat)
  | canisterLow (pos : Position) (code level threshold : Nat)
  | canisterDry (order : Nat) (pos : Position) (code level usable : Nat) (finding : Option Finding)
  | canisterUnseated (order : Nat) (positions : List Position) (code : Nat)
  | noOrderForTin (station : NoticeStation) (cls : TinClass)
  | liddedTin (station : NoticeStation)
  | lidsOut (order : Nat) (cls : TinClass) (count : Nat)
  | estop (modeBefore : LineMode)
  | stationFault (order : Nat) (station : Dest) (kind : FaultKind) (entry : Option Nat) (pendingManual : Nat)
      (detail : FaultDetail)
  deriving DecidableEq, Repr

/-- A notice entry: its contents and its repeat count (section 10.4). -/
structure Notice where
  body : NoticeBody
  count : Nat
  deriving DecidableEq, Repr

/-! ## Replies and the link (sections 10.1 to 10.3) -/

/-- The status codes of section 10.6. -/
inductive Status where
  | ok | adjusted | unknownKind | badLength | badField | bookFull | duplicateOrder | noSuchOrder | wrongState
  | tooLate | returnBusy | roundsFull | codeHeld | overfill | lineTooLarge | inUse | roleTaken | mode
  | storeBusy | actionNotAllowed
  deriving DecidableEq, Repr

/-- The line flags of a reply (R161). -/
structure LineFlags where
  congested : Bool
  estop : Bool
  backlog : Bool
  service : Bool
  supplyWarned : Bool
  deriving DecidableEq, Repr

/-- The counts of a plan that ORDER_SUBMIT, ORDER_CORRECT and PLAN_PREVIEW report (R9). -/
structure PlanCounts where
  automatic : Nat
  manual : Nat
  trimmed : Nat
  clampedUp : Nat
  total : Nat
  deriving DecidableEq, Repr

/-- The count of a plan's entries in each entry state (R10). -/
structure EntryCounts where
  pending : Nat
  active : Nat
  done : Nat
  skipped : Nat
  failed : Nat
  partialShot : Nat
  deriving DecidableEq, Repr

/-- A plan entry as PLAN_PREVIEW reports it: its index, the entry and the required volume of its line
(R64). -/
structure EntryReport where
  index : Nat
  entry : Entry
  required : Nat
  deriving DecidableEq, Repr

/-- The STATUS reply (R166). -/
structure StatusReport where
  mode : LineMode
  pendingMode : Option PendingMode
  latch : Bool
  chainOpen : Bool
  notices : Nat
  attention : Nat
  requests : Nat
  positioner : PositionerState
  position : Position
  intake : IntakeState
  station : StationState
  bayOne : BayState
  bayTwo : BayState
  lidder : LidderState
  lanes : List LaneState
  liveOrders : Nat
  returnSlot : Nat
  lids : Magazines
  lastReading : Option Nat
  scaleFault : Bool
  saving : Bool
  deriving DecidableEq, Repr

/-- The ORDER_QUERY reply: the record without the lines of its rounds, and the counts of its plan's
entries (R10). -/
structure OrderReport where
  number : Nat
  admission : Nat
  rush : Bool
  cls : TinClass
  fill : Nat
  vref : Nat
  strength : Nat
  profile : MixProfile
  holdOpen : Bool
  rounds : List (Nat × Bool)
  state : OrderState
  beforeHold : Option OrderState
  tin : Nat
  route : Route
  lidOnly : Bool
  delivered : Nat
  flags : OrderFlags
  pendingEnd : Option PendingEnd
  fault : Option FaultRecord
  entries : Option EntryCounts
  deriving DecidableEq, Repr

/-- What a reply carries after its header (the owning rule of each request). -/
inductive ReplyBody where
  | none
  | ident (part : List Byte) (hardware firmware : Byte) (positions bays lanes : Nat)
  | status (report : StatusReport)
  | submitted (admission : Nat) (counts : PlanCounts)
  | corrected (round : Nat) (counts : PlanCounts)
  | line (index : Nat)
  | overfill (total available : Nat)
  | order (report : OrderReport)
  | preview (counts : PlanCounts) (headroom entries : Nat) (records : List EntryReport)
  | canister (pos : Position) (record : Canister) (usable : Nat) (condition : Condition)
  | canisterQuery (pos : Position) (record : Canister) (usable : Nat) (condition : Condition)
      (finding : Finding) (inUse : Bool)
  | level (level usable : Nat) (condition : Condition)
  | classes (entries : Vector ClassEntry 6)
  | lids (counts : Magazines)
  | settings (values : Settings)
  | cleared (interrupted queued freed : Nat)
  deriving DecidableEq, Repr

/-- A reply (R161). -/
structure Reply where
  kind : Byte
  tag : Byte
  status : Status
  flags : LineFlags
  body : ReplyBody
  deriving DecidableEq, Repr

/-- A request in the input queue, with its reply once composed (R160). -/
structure InputEntry where
  kind : Byte
  tag : Byte
  payload : List Byte
  reply : Option Reply
  deriving DecidableEq, Repr

/-- The transmitter: IDLE, or the frame in transmission; a notice's frame has the notice's kind and the tag 0
(R162). -/
inductive Transmitter where
  | idle
  | sendingReply (reply : Reply)
  | sendingNotice (kind tag : Byte) (notice : Notice)
  deriving DecidableEq, Repr

/-- The link controller; `rx` holds the bytes of the frame so far, none in HUNT (R159). -/
structure Link where
  rx : List Byte
  queue : List InputEntry
  rts : Bool
  cts : Bool
  tx : Transmitter
  warnedMark : Bool
  deriving DecidableEq, Repr

/-! ## Supply monitor and flash store (chapter 11) -/

/-- The tables the flash store copies (R176). -/
structure Tables where
  canisters : Vector Canister 24
  classes : Vector ClassEntry 6
  settings : Settings
  deriving DecidableEq, Repr

/-- The supply monitor: `saving` is the copy a save in flight writes (R176). -/
structure Supply where
  warned : Bool
  clean : Bool
  flashValid : Bool
  flash : Tables
  saving : Option Tables
  deriving DecidableEq, Repr

/-- The controller. The retained image of R172 is the present value of the fields that rule lists
(log 7). `moment` orders the empty-since times of the bays (log 2) and `freeCount` numbers the free values
drawn (log 40): both are the model's own. -/
structure State where
  pending : List Instr
  link : Link
  notices : List Notice
  book : Book
  intake : Intake
  canisters : Vector Canister 24
  classes : Vector ClassEntry 6
  settings : Settings
  positioner : Positioner
  station : Station
  weigh : WeighCell
  conveyor : Conveyor
  bayOne : Bay
  bayTwo : Bay
  lidder : Lidder
  lanes : Vector LaneRecord 6
  line : LineUnit
  supply : Supply
  moment : Nat
  freeCount : Nat
  deriving DecidableEq, Repr

/-- No command stops the controller: each fault of the spec is a fault record on an order and a state of a
station, which is a next state. -/
inductive Fault where
  deriving DecidableEq, Repr

/-- Why a command has no meaning. -/
inductive Refusal where
  /-- Raised by `exec`'s arm of a command not modelled yet; safe. No arm raises it. -/
  | notModelled (mnemonic : String)
  deriving DecidableEq, Repr

/-! ## Start values -/

/-- The settings a cold start without a valid flash image takes (R111, R130). -/
def Settings.defaults : Settings :=
  { tolAbs := 50, tolPm := 20, window := 1500, standard := 90, long := 180, gentle := 120, short := 45 }

/-- The station at a start with no tin sensed (R97). -/
def Station.start : Station :=
  { state := .idle, order := none, resume := none, tin := none, plan := none, cur := none,
    freshNeeded := false, settleFor := .tare, finding := none, arrivalWaits := false, awaitHoming := false,
    gentle := false, present := false, size := .A, lid := false }

/-- A bay at a start with no tin sensed (R130). -/
def Bay.start : Bay :=
  { state := .empty, reservation := none, tin := none, orderProfile := .standard, inForce := none,
    gentle := false, mixDone := false, cause := none, emptySince := 0, clamp := .opened, brake := false,
    present := false, clampClosed := false }

/-- The lidder at a cold start with no tin sensed (R143). -/
def Lidder.start : Lidder :=
  { state := .idle, requesters := [], reserved := none, tin := none, arrived := false, lidOn := false,
    repressUsed := false, resume := none, loaded := false,
    magazines := { a := 0, b := 0, c := 0, d := 0, e := 0 }, present := false }

/-- An empty lane (R143). -/
def LaneRecord.start : LaneRecord := { state := .empty, tin := none, present := false }

/-- The conveyor with no record and no request (R130). -/
def Conveyor.start : Conveyor :=
  { toDispense := none, toBayOne := none, toBayTwo := none, toLidder := none, toOutlet := none,
    intakeRequest := false, stationRequest := false, outletRequest := false }

/-- The tables of a cold start without a valid flash image (R59, R111, R130). -/
def Tables.blank : Tables :=
  { canisters := Vector.replicate 24 {}, classes := Vector.replicate 6 {}, settings := Settings.defaults }

/-- The controller after reset: the cold start of R174 and R175 with an invalid flash image, no tin sensed,
no canister seated, the e-stop chain closed and CTS deasserted (log 3). -/
def State.reset : State :=
  { pending := []
    link := { rx := [], queue := [], rts := true, cts := false, tx := .idle, warnedMark := true }
    notices := [{ body := .started false false, count := 1 }]
    book := { orders := [], admission := 0, lastTin := 0, slot := none }
    intake := { state := .empty, cls := .A, lidded := false, reason := .noOrderForTin, bound := none,
                present := false }
    canisters := Tables.blank.canisters
    classes := Tables.blank.classes
    settings := Settings.defaults
    positioner := { state := .unhomed, position := 0, move := none, markSeen := false, onMark := false }
    station := Station.start
    weigh := { settling := false, window := 1500, span := [], fault := false, last := none }
    conveyor := Conveyor.start
    bayOne := Bay.start
    bayTwo := Bay.start
    lidder := Lidder.start
    lanes := Vector.replicate 6 LaneRecord.start
    line := { mode := .paused, pendingMode := none, latch := false, chainOpen := false }
    supply := { warned := false, clean := false, flashValid := false, flash := Tables.blank, saving := none }
    moment := 0
    freeCount := 0 }

end Sys2Proof.Machine
end

