-- ==== Sys2Proof/Machine/Flags.lean ====
section
/-! DEFINITION. Every condition, flag and lamp the spec derives from the state. -/

namespace Sys2Proof.Machine

/-! ## Canister conditions (R39, R40) -/

/-- The usable volume: the level less the floor, or 0 (R39). -/
def Canister.usable (c : Canister) : Nat := c.level - c.floor

/-- A position is configured when its code is not 0 (section 3.1). -/
def Canister.configured (c : Canister) : Bool := c.code != 0

/-- LOW: the level is below the low threshold × 1,000,000 nL (R39). -/
def Canister.isLow (c : Canister) : Bool := c.configured && decide (c.level < c.low * 1000000)

/-- DRY: the usable volume is below m × d (R39). -/
def Canister.isDry (c : Canister) : Bool := c.configured && decide (c.usable < c.m * c.d)

/-- Usable for planning: configured, seated, confirmed and not DRY (R39). -/
def Canister.forPlanning (c : Canister) : Bool := c.configured && c.seated && c.confirmed && !c.isDry

/-- The condition reported: DRY before LOW before OK; OK for an unconfigured position (R39). -/
def Canister.condition (c : Canister) : Condition :=
  if c.isDry then .dry else if c.isLow then .low else .ok

/-- The canister table's part of the stroke-start check for an entry's code and a stroke's steps (R40). -/
def Canister.finding (c : Canister) (code steps : Nat) : Finding :=
  if !c.configured || c.code != code then .changed
  else if !c.seated then .unseated
  else if !c.confirmed then .unconfirmed
  else if c.usable < steps * c.d then .short
  else .ready

/-! ## Class attributes (R53) -/

/-- An enabled class entry whose range contains the code. -/
def ClassEntry.covers (e : ClassEntry) (code : Nat) : Bool :=
  e.enabled && decide (e.first ≤ code) && decide (code ≤ e.last)

/-- Whether some enabled entry containing the code has the attribute (R53). -/
def State.hasAttr (s : State) (attr : ClassEntry → Bool) (code : Nat) : Bool :=
  s.classes.toList.any fun e => e.covers code && attr e

/-! ## Notice queue conditions (R161, R165) -/

/-- The class of a notice, fixed by its kind (section 10.5). -/
def NoticeBody.cls : NoticeBody → NoticeClass
  | .orderState .. | .shotDone .. | .tinReady .. | .orderEnded .. | .lineMode .. | .storeSaved ..
  | .started .. => .progress
  | .manualStep .. | .canisterLow .. | .canisterDry .. | .canisterUnseated .. | .noOrderForTin ..
  | .liddedTin .. | .lidsOut .. | .estop .. => .attention
  | .stationFault .. => .fault

/-- The kind byte of a notice (section 10.5). -/
def NoticeBody.kind : NoticeBody → Byte
  | .orderState .. => 0xC0
  | .shotDone .. => 0xC1
  | .tinReady .. => 0xC2
  | .orderEnded .. => 0xC3
  | .lineMode .. => 0xC4
  | .storeSaved .. => 0xC5
  | .started .. => 0xC6
  | .manualStep .. => 0xD0
  | .canisterLow .. => 0xD1
  | .canisterDry .. => 0xD2
  | .canisterUnseated .. => 0xD3
  | .noOrderForTin .. => 0xD4
  | .liddedTin .. => 0xD5
  | .lidsOut .. => 0xD6
  | .estop .. => 0xD7
  | .stationFault .. => 0xDC

/-- The tag of every notice's frame (R162). -/
def noticeTag : Byte := 0

/-- The number of ATTENTION and FAULT entries in a notice queue (R165). -/
def attentionCount (q : List Notice) : Nat := q.countP fun n => n.body.cls != .progress

/-- The notice queue is congested: its ATTENTION and FAULT entries number 48 or more (R165). -/
def State.congested (s : State) : Bool := decide (Config.congestionCount ≤ attentionCount s.notices)

/-- The line mode unit holds the line RUNNING: mode RUNNING and no PAUSE pending (R144). -/
def State.heldRunning (s : State) : Bool := s.line.mode == .running && s.line.pendingMode != some .pause

/-- Starts are allowed, and the intake gate is open (R144). -/
def State.startsAllowed (s : State) : Bool := s.heldRunning && !s.congested

/-- The line flags at the head of a reply (R161). -/
def State.lineFlags (s : State) : LineFlags :=
  { congested := s.congested
    estop := s.line.mode == .stopped
    backlog := decide (Config.backlogCount ≤ s.notices.length)
    service := s.line.mode == .service
    supplyWarned := s.link.warnedMark }

/-! ## Stations at rest (R77, sections 7.7 and 8.1, R112) -/

/-- The states in which the dispense station reports itself at rest (R77). -/
def StationState.atRest : StationState → Bool
  | .idle | .receiving | .pausedHold | .awaitManual | .faultHeld | .complete | .awaitRemakeTin | .clearing
  | .halted => true
  | .taring | .planning | .moving | .stroking | .settling | .verifying | .waitCanister | .sending => false

/-- The bay states at rest (section 7.7). -/
def BayState.atRest : BayState → Bool
  | .empty | .loading | .ready | .fault | .halted | .clearing => true
  | .clamping | .spinning | .braking | .unclamping => false

/-- The brake a bay holds on entering CLEARING until the yoke stands: one that is on, or that of a spin cut there
(R129). -/
def Bay.brakeHeld (y : Bay) : Bool := y.brake || y.state == .spinning

/-- The lidder states at rest (section 8.1). -/
def LidderState.atRest : LidderState → Bool
  | .idle | .receiving | .dischargeWait | .sending | .waitLids | .fault | .halted | .clearing => true
  | .placing | .pressing | .checking => false

/-- A record, when there is one, is not RUNNING. -/
def recordAtRest : Option Transfer → Bool
  | some t => t.state != .running
  | none => true

/-- The conveyor is at rest whenever none of its records is RUNNING (R112). -/
def Conveyor.atRest (c : Conveyor) : Bool :=
  recordAtRest c.toDispense && recordAtRest c.toBayOne && recordAtRest c.toBayTwo
    && recordAtRest c.toLidder && recordAtRest c.toOutlet

/-- Every station reports itself at rest (R146). -/
def State.allAtRest (s : State) : Bool :=
  s.station.state.atRest && s.conveyor.atRest && s.bayOne.state.atRest && s.bayTwo.state.atRest
    && s.lidder.state.atRest

/-! ## Plan entries in use (R43, R61, R77) -/

/-- An entry in PENDING or ACTIVE puts its position in use (R61). -/
def EntryState.holdsPosition : EntryState → Bool
  | .pending | .active => true
  | _ => false

/-- An entry that is still to be worked on: PENDING, ACTIVE or PARTIAL (R77). -/
def EntryState.unfinished : EntryState → Bool
  | .pending | .active | .partialShot => true
  | _ => false

/-- The station reports entries pending (R77). -/
def Station.entriesPending (st : Station) : Bool :=
  match st.plan with
  | some p => p.entries.any fun e => e.state.unfinished
  | none => false

/-- An entry of the active plan in PENDING or ACTIVE names the position (R43). -/
def State.namedByPlan (s : State) (pos : Position) : Bool :=
  match s.station.plan with
  | some p => p.entries.any fun e => e.state.holdsPosition && e.pos == some pos
  | none => false

/-- The position is in use (R43). -/
def State.inUse (s : State) (pos : Position) : Bool := s.namedByPlan pos || s.canisters[pos].drawing

/-- An entry is a completed manual entry or has delivered steps (R7). -/
def Entry.gaveColourant (e : Entry) : Bool :=
  decide (0 < e.delivered) || (e.flags.manual && e.state == .done)

/-- A plan holds an entry that has given colourant (R7). -/
def PlanContext.gaveColourant (p : PlanContext) : Bool := p.entries.any Entry.gaveColourant

/-! ## Lamps (R152) -/

/-- The worse of two lamp states (R152). -/
def Lamp.worse : Lamp → Lamp → Lamp
  | .fast, _ | _, .fast => .fast
  | .slow, _ | _, .slow => .slow
  | .steady, _ | _, .steady => .steady
  | .off, .off => .off

/-- A live order holds a fault record naming the station (R152). -/
def State.faultAt (s : State) (d : Dest) : Bool :=
  s.book.orders.any fun o => match o.fault with
    | some f => f.station == d
    | none => false

/-- The intake's lamp (R152). -/
def IntakeState.lamp : IntakeState → Lamp
  | .empty => .off
  | .waiting | .bound => .steady
  | .refused | .clearing => .slow

/-- The dispense station's lamp by its state (R152). -/
def StationState.lamp : StationState → Lamp
  | .idle => .off
  | .receiving | .taring | .planning | .moving | .stroking | .settling | .verifying | .pausedHold
  | .complete | .sending => .steady
  | .waitCanister | .awaitManual | .awaitRemakeTin | .clearing => .slow
  | .faultHeld | .halted => .fast

/-- A bay's lamp by its state (R152). -/
def Bay.lamp (b : Bay) : Lamp :=
  match b.state with
  | .empty => if b.reservation.isSome then .steady else .off
  | .loading | .clamping | .spinning | .braking | .unclamping | .ready => .steady
  | .clearing => .slow
  | .fault | .halted => .fast

/-- The lidder's lamp by its state (R152). -/
def LidderState.lamp : LidderState → Lamp
  | .idle => .off
  | .receiving | .placing | .pressing | .checking | .dischargeWait | .sending => .steady
  | .waitLids | .clearing => .slow
  | .fault | .halted => .fast

/-- A lane's part of the outlet lamp (R152). -/
def LaneState.lamp : LaneState → Lamp
  | .empty => .off
  | .reserved | .collect => .steady
  | .check | .clearing => .slow

/-- The six lamps: the intake's, and one for each station a fault record can name (R152). -/
def State.intakeLamp (s : State) : Lamp := s.intake.state.lamp

/-- The lamp of a station a fault record can name: FAST while a live order's record names it, otherwise by
the station's state; the outlet shows the worst of its lanes (R152). -/
def State.lamp (s : State) (d : Dest) : Lamp :=
  if s.faultAt d then .fast
  else match d with
    | .dispense => s.station.state.lamp
    | .bay .one => s.bayOne.lamp
    | .bay .two => s.bayTwo.lamp
    | .lidder => s.lidder.state.lamp
    | .outlet => (s.lanes.toList.map fun l => l.state.lamp).foldl Lamp.worse .off

end Sys2Proof.Machine
end

