-- ==== Sys2Proof/Machine/Arith.lean ====
section
/-! DEFINITION. The dosing arithmetic unit (chapter 2): every quantity computed from a formula line. -/

namespace Sys2Proof.Machine

/-- The quotient rounded half up: one is added when twice the remainder is at least the divisor (R22). -/
def halfUp (a b : Nat) : Nat := a / b + if b ≤ 2 * (a % b) then 1 else 0

/-- The quotient rounded up (R22). -/
def ceilDiv (a b : Nat) : Nat := a / b + if a % b = 0 then 0 else 1

/-- What a round's lines are scaled by: fill, reference volume and strength (R23). -/
structure Scale where
  fill : Nat
  vref : Nat
  strength : Nat
  deriving DecidableEq, Repr

/-- The scale of a correction round: equal volumes and strength 1000 (R23). -/
def Scale.correction : Scale := { fill := 1, vref := 1, strength := 1000 }

/-- The numerator of stages 1 and 2 (R24, R25). -/
def Scale.numerator (sc : Scale) (q : Nat) : Nat := 10 * q * sc.fill * sc.strength

/-- Stage 1: the required volume of a line in nL (R24). -/
def requiredVolume (sc : Scale) (q : Nat) : Nat := halfUp (sc.numerator q) sc.vref

/-- Stage 2: the steps of a line on a canister of displacement d, rounded once (R25). -/
def lineSteps (sc : Scale) (q d : Nat) : Nat := halfUp (sc.numerator q) (sc.vref * d)

/-- The outcome of the minimum-shot policy (R27). -/
inductive ShotSize where
  | trimmed | clamped (m : Nat) | plain (r : Nat)
  deriving DecidableEq, Repr

/-- The minimum-shot policy on r steps and minimum shot m (R27). -/
def minimumShot (r m : Nat) : ShotSize :=
  if r = 0 then .trimmed
  else if r < m then (if 2 * r < m then .trimmed else .clamped m)
  else .plain r

/-- The steps a policy outcome leaves. -/
def ShotSize.steps : ShotSize → Nat
  | .trimmed => 0
  | .clamped m => m
  | .plain r => r

/-- Whether a policy outcome is CLAMPED_UP. -/
def ShotSize.isClamped : ShotSize → Bool
  | .clamped _ => true
  | _ => false

/-- The mass in mg of a volume in nL at a density in mg per mL (R28, R34, R38). -/
def massOf (volume rho : Nat) : Nat := halfUp (volume * rho) 1000000

/-- The volume in nL of a mass in mg at a density in mg per mL (R37, R89). -/
def volumeOf (mass rho : Nat) : Nat := halfUp (mass * 1000000) rho

/-- Stage 5: the tolerance of an expected mass (R29). -/
def tolerance (st : Settings) (mass : Nat) : Nat := max st.tolAbs (halfUp (mass * st.tolPm) 1000)

/-- Stage 6: r steps divided into strokes of at most c steps, the longer first (R30). A capacity of 0, which
no configured canister has, leaves one stroke. -/
def strokesOf (r c : Nat) : List Nat :=
  if r = 0 then []
  else
    let k := if c = 0 then 1 else ceilDiv r c
    let whole := r / k
    List.replicate (r - k * whole) (whole + 1) ++ List.replicate (k - (r - k * whole)) whole

/-- The stroke count k of R30. -/
def strokeCount (r c : Nat) : Nat := if r = 0 then 0 else if c = 0 then 1 else ceilDiv r c

/-- The nominal volume of a class in mL (00_scope.md, Conventions). -/
def nominal : TinClass → Nat
  | .A => 500
  | .B => 1000
  | .C => 2500
  | .D => 5000
  | .E => 10000

/-- The brim capacity of a class in mL (00_scope.md, Conventions). -/
def brim : TinClass → Nat
  | .A => 560
  | .B => 1110
  | .C => 2750
  | .D => 5450
  | .E => 10800

/-- The headroom of a tin in nL (00_scope.md, Conventions). -/
def headroom (cls : TinClass) (fill : Nat) : Nat := (brim cls - fill) * 1000000

/-- The available volume: the headroom less the delivered volume, or 0 (R35). -/
def availableVolume (cls : TinClass) (fill delivered : Nat) : Nat := headroom cls fill - delivered

/-- A top-up: its steps, and the mass left to the hand when it was reduced (R36, R37). -/
structure TopUp where
  steps : Nat
  rest : Nat
  reduced : Bool
  deriving DecidableEq, Repr

/-- Stage 9: the top-up of a deficit on a canister, reduced to its usable volume where it must be
(R36, R37). -/
def topUpOf (c : Canister) (deficit : Nat) : TopUp :=
  let full := max c.m (halfUp (deficit * 1000000) (c.rho * c.d))
  if full * c.d ≤ c.usable then { steps := full, rest := 0, reduced := false }
  else
    let fits := c.usable / c.d
    let steps := if fits < c.m then 0 else fits
    { steps := steps, rest := deficit - massOf (steps * c.d) c.rho, reduced := true }

/-- Stage 10: the steps an entry still owes (R38). -/
def Entry.remaining (e : Entry) : Nat := e.steps + e.topup - e.delivered

/-- The target of an entry's remainder on a canister (R38). -/
def Entry.remainderTarget (st : Settings) (c : Canister) (e : Entry) : Target :=
  let mass := massOf (e.remaining * c.d) c.rho
  { mass := mass, tol := tolerance st mass }

end Sys2Proof.Machine
end

