-- ==== Sys2Proof/Machine/Plan.lean ====
section
/-! DEFINITION. The plan builder (chapter 4): line records, entries, their order, dry plans, the take-up of a
partial plan, recomputation and remake. It changes no state: it reads the tables of the state it is given. -/

namespace Sys2Proof.Machine

/-! ## Canisters of a code (R31, R34) -/

/-- The position configured with a code in a role (R41: at most one). -/
def State.findRole (s : State) (code : Nat) (role : Role) : Option Position :=
  (List.finRange 24).find? fun p =>
    s.canisters[p].configured && s.canisters[p].code == code && s.canisters[p].role == role

/-- The same position when its canister is usable for planning. -/
def State.findUsable (s : State) (code : Nat) (role : Role) : Option Position :=
  match s.findRole code role with
  | some p => if s.canisters[p].forPlanning then some p else none
  | none => none

/-- The first and second canister of a code (R31). -/
def State.chooseCanisters (s : State) (code : Nat) : Option Position × Option Position :=
  match s.findUsable code .primary, s.findUsable code .reserve with
  | some p, r => (some p, r)
  | none, r => (r, none)

/-- The density of a code: its PRIMARY's when one is configured, else its RESERVE's (R34). -/
def State.densityOf (s : State) (code : Nat) : Option Nat :=
  match s.findRole code .primary with
  | some p => some s.canisters[p].rho
  | none => (s.findRole code .reserve).map fun p => s.canisters[p].rho

/-! ## Entries (R60) -/

/-- An automatic entry of some steps at a position (R28 to R30, R60). -/
def State.autoEntry (s : State) (round line code : Nat) (pos : Position) (steps : Nat) (flags : EntryFlags) :
    Entry :=
  let c := s.canisters[pos]
  let mass := massOf (steps * c.d) c.rho
  { round := round, line := line, code := code, pos := some pos, mark := c.mark, d := c.d, rho := c.rho,
    steps := steps, strokes := strokeCount steps c.c, volume := steps * c.d, mass := some mass,
    tol := tolerance s.settings mass, flags := flags, state := .pending }

/-- A TRIMMED entry, SKIPPED from its creation, at the line's first canister when there is one (R60). -/
def State.trimmedEntry (s : State) (round line code : Nat) (pos : Option Position) (flags : EntryFlags) :
    Entry :=
  let c : Canister := match pos with
    | some p => s.canisters[p]
    | none => {}
  { round := round, line := line, code := code, pos := pos, mark := c.mark, d := c.d, rho := c.rho,
    steps := 0, strokes := 0, volume := 0, mass := some 0, tol := 0,
    flags := { flags with trimmed := true }, state := .skipped }

/-- A MANUAL entry of a volume, with a mass where a density is available (R34, R60). -/
def State.manualEntry (s : State) (round line code volume : Nat) (flags : EntryFlags) : Entry :=
  let mass := (s.densityOf code).map fun rho => massOf volume rho
  { round := round, line := line, code := code, pos := none, mark := 0, d := 0, rho := 0, steps := 0,
    strokes := 0, volume := volume, mass := mass, tol := tolerance s.settings (mass.getD 0),
    flags := { flags with manual := true }, state := .pending }

/-- The flags an automatic entry takes from its line (R60). -/
def LineRecord.entryFlags (l : LineRecord) : EntryFlags := { late := l.late, weigh := l.weigh }

/-! ## Lines and splits (R25 to R33, R65) -/

/-- The entries of a line that draws n steps first at p: whole, or split across the second canister and
the hand. The error is the line's index (R32, R33). -/
def State.splitLine (s : State) (round : Nat) (l : LineRecord) (n : Nat) (clampedUp : Bool) (p : Position)
    (second : Option Position) : Except Nat (List Entry) :=
  let c := s.canisters[p]
  if n * c.d ≤ c.usable then
    .ok [s.autoEntry round l.index l.code p n { l.entryFlags with clampedUp := clampedUp }]
  else
    let np := c.usable / c.d
    let primary := s.autoEntry round l.index l.code p np { l.entryFlags with splitPrimary := true }
    let rest := l.required - np * c.d
    match second with
    | none => .ok [primary, s.manualEntry round l.index l.code rest {}]
    | some r =>
      let cr := s.canisters[r]
      let nr := halfUp rest cr.d
      if Config.maxSteps < nr then .error l.index
      else
        let shot := minimumShot nr cr.m
        if shot = .trimmed then
          .ok [primary, s.trimmedEntry round l.index l.code (some p) { splitReserve := true },
               s.manualEntry round l.index l.code rest {}]
        else if shot.steps * cr.d ≤ cr.usable then
          .ok [primary, s.autoEntry round l.index l.code r shot.steps
                 { l.entryFlags with splitReserve := true, clampedUp := shot.isClamped }]
        else
          let fits := cr.usable / cr.d
          .ok [primary, s.autoEntry round l.index l.code r fits { l.entryFlags with splitReserve := true },
               s.manualEntry round l.index l.code (rest - fits * cr.d) {}]

/-- The line record and the entries of one line of a new plan (R65 steps 1 and 2). -/
def State.planLine (s : State) (sc : Scale) (round : Nat) (line : FormulaLine) :
    Except Nat (LineRecord × List Entry) :=
  let pair := s.chooseCanisters line.code
  let base : LineRecord :=
    { index := line.index, code := line.code, amount := line.amount,
      required := requiredVolume sc line.amount, firstPos := pair.1,
      firstMark := match pair.1 with
        | some p => s.canisters[p].mark
        | none => 0
      steps := none, late := s.hasAttr (·.late) line.code, gentle := s.hasAttr (·.gentle) line.code,
      weigh := s.hasAttr (·.weigh) line.code }
  if line.amount = 0 then
    .ok ({ base with steps := pair.1.map fun _ => 0 }, [s.trimmedEntry round line.index line.code pair.1 {}])
  else
    match pair.1 with
    | none => .ok (base, [s.manualEntry round line.index line.code base.required {}])
    | some p =>
      let n := lineSteps sc line.amount s.canisters[p].d
      if Config.maxSteps < n then .error line.index
      else
        let shot := minimumShot n s.canisters[p].m
        let record := { base with steps := some shot.steps }
        if shot = .trimmed then .ok (record, [s.trimmedEntry round line.index line.code (some p) {}])
        else
          match s.splitLine round record shot.steps shot.isClamped p pair.2 with
          | .ok es => .ok (record, es)
          | .error i => .error i

/-- The records and entries of a round's lines in line order, stopping at the first line that fails
(R26, R65). -/
def State.planLines (s : State) (sc : Scale) (round : Nat) :
    List FormulaLine → Except Nat (List LineRecord × List Entry)
  | [] => .ok ([], [])
  | line :: rest =>
    match s.planLine sc round line with
    | .error i => .error i
    | .ok (record, es) =>
      match s.planLines sc round rest with
      | .error i => .error i
      | .ok (records, more) => .ok (record :: records, es ++ more)

/-- The headroom sum: every entry but TOPUP_MANUAL counts its volume (R35). -/
def planSum (entries : List Entry) : Nat :=
  ((entries.filter fun e => !e.flags.topupManual).map Entry.volume).sum

/-! ## Ordering (R66) -/

/-- The entries in ascending circular order of position from `start` (R66). -/
def circular (start : Nat) (entries : List Entry) : List Entry :=
  (List.range 24).flatMap fun k => entries.filter fun e =>
    match e.pos with
    | some p => p.val == (start + k) % 24
    | none => false

/-- An entry appended after the plan was built: TOPUP_MANUAL, or a MANUAL made by R70 (R66, R70). -/
def Entry.appended (e : Entry) : Bool :=
  e.flags.topupManual || (e.flags.manual && e.flags.recalibrated)

/-- An automatic entry that is to be placed by its position (R66). -/
def Entry.placed (e : Entry) : Bool := !e.flags.manual && !e.flags.trimmed

/-- Entries sorted by line index, keeping the order within a line (R66). -/
def byLine (entries : List Entry) : List Entry :=
  (List.range 256).flatMap fun i => entries.filter fun e => e.line == i

/-- The plan's order: automatic without LATE, LATE, MANUAL, TRIMMED, and then what was appended later
(R66, log 38). -/
def orderEntries (p : Position) (entries : List Entry) : List Entry :=
  let first := circular p.val (entries.filter fun e => e.placed && !e.flags.late)
  let lateStart := match first.getLast? with
    | some e => match e.pos with
      | some q => q.val + 1
      | none => p.val
    | none => p.val
  first
    ++ circular lateStart (entries.filter fun e => e.placed && e.flags.late)
    ++ byLine (entries.filter fun e => e.flags.manual && !e.appended)
    ++ byLine (entries.filter fun e => e.flags.trimmed)
    ++ entries.filter Entry.appended

/-! ## Building (R63, R65) -/

/-- A plan of some lines against an available volume, ordered from position p. The error is the index of a
line that is LINE_TOO_LARGE; whether the sum fits is left to the caller (R63, R65). -/
def State.buildPlan (s : State) (order round : Nat) (sc : Scale) (lines : List FormulaLine) (available : Nat)
    (p : Position) : Except Nat PlanContext :=
  match s.planLines sc round lines with
  | .error i => .error i
  | .ok (records, entries) =>
    .ok { order := order, round := round, lines := records, entries := orderEntries p entries,
          gentle := lines.any fun l => s.hasAttr (·.gentle) l.code, sum := planSum entries,
          available := available }

/-- The sum fits the available volume (R35). -/
def PlanContext.fits (p : PlanContext) : Bool := decide (p.sum ≤ p.available)

/-- The counts a reply gives of a plan (R9): automatic entries to be served, manual entries, TRIMMED lines
and CLAMPED_UP entries, with the planned total. -/
def PlanContext.counts (p : PlanContext) : PlanCounts :=
  { automatic := p.entries.countP Entry.placed
    manual := p.entries.countP fun e => e.flags.manual
    trimmed := p.entries.countP fun e => e.flags.trimmed && !e.flags.splitReserve
    clampedUp := p.entries.countP fun e => e.flags.clampedUp
    total := p.sum }

/-- Whether any entry of the plan is CLAMPED_UP (R65). -/
def PlanContext.anyClamped (p : PlanContext) : Bool := p.entries.any fun e => e.flags.clampedUp

/-- The round an order is working on, with its number (R3). -/
def Order.currentRound (o : Order) : Nat := o.rounds.length - 1

/-- The lines of the current round (R3). -/
def Order.currentLines (o : Order) : List FormulaLine :=
  match o.rounds.getLast? with
  | some r => r.lines
  | none => []

/-- The scale of the order's current round (R23). -/
def Order.scale (o : Order) : Scale :=
  if o.rounds.length ≤ 1 then { fill := o.fill, vref := o.vref, strength := o.strength } else .correction

/-- The available volume of the order (R35). -/
def Order.available (o : Order) : Nat := availableVolume o.cls o.fill o.delivered

/-- Whether a line of the order's current round carries GENTLE now (R53, R65). -/
def State.readGentle (s : State) (o : Order) : Bool :=
  o.currentLines.any fun l => s.hasAttr (·.gentle) l.code

/-! ## Failures of a plan (R67) -/

/-- Why the build of an active plan fails (R67). -/
inductive PlanFailure where
  | tooLarge (line : Nat)
  | overSum (sum available : Nat)
  deriving DecidableEq, Repr

/-- What the STATION_FAULT notice carries for a failure (R67). -/
def PlanFailure.detail : PlanFailure → FaultDetail
  | .tooLarge i => .line i
  | .overSum a b => .sums a b

/-- The sum made afresh over a plan's entries against the order's available volume (R35, R69, R70). -/
def PlanContext.summed (p : PlanContext) (available : Nat) : Except PlanFailure PlanContext :=
  let q := { p with sum := planSum p.entries, available := available }
  if q.fits then .ok q else .error (.overSum q.sum q.available)

/-- A new active plan of the order's current round (R65). -/
def State.newPlan (s : State) (o : Order) (p : Position) : Except PlanFailure PlanContext :=
  match s.buildPlan o.number o.currentRound o.scale o.currentLines o.available p with
  | .error i => .error (.tooLarge i)
  | .ok plan => if plan.fits then .ok plan else .error (.overSum plan.sum plan.available)

/-! ## Recomputation (R70) -/

/-- The entry's calibration mark differs from its position's (R70). -/
def State.staleMark (s : State) (e : Entry) : Bool :=
  match e.pos with
  | some p => s.canisters[p].mark != e.mark
  | none => false

/-- The entry rebased on the calibration of its position, which still holds its code (R70). Its planned volume is
its steps times the displacement it now records (R28, R35, log 16). -/
def State.rebaseEntry (s : State) (c : Canister) (e : Entry) : Except Nat Entry :=
  let owed := halfUp (e.remaining * e.d) c.d
  let shot : ShotSize := if e.state = .pending then minimumShot owed c.m else .plain owed
  if shot = .trimmed then
    .ok { e with
      steps := 0, topup := 0, strokes := 0, volume := 0, mass := some 0, tol := 0, d := c.d, rho := c.rho,
      mark := c.mark, flags := { e.flags with trimmed := true, clampedUp := false }, state := .skipped }
  else
    let r := shot.steps
    let mass := massOf (r * c.d) c.rho
    if Config.maxSteps < e.delivered + r then .error e.line
    else
      .ok { e with
        steps := e.delivered + r, topup := 0, strokes := strokeCount r c.c,
        volume := (e.delivered + r) * c.d, mass := some mass, tol := tolerance s.settings mass,
        d := c.d, rho := c.rho, mark := c.mark,
        flags := { e.flags with clampedUp := if e.state = .pending then shot.isClamped else e.flags.clampedUp } }

/-- The entry closed at what it delivered (R70). -/
def closeEntry (e : Entry) : Entry :=
  { e with
    steps := e.delivered, topup := 0, volume := e.deliveredVolume,
    flags := { e.flags with recalibrated := true },
    state := if e.state = .pending then .skipped else .done }

/-- The manual part a line keeps, when it is PENDING (R70). -/
def Entry.manualPartOf (line : Nat) (e : Entry) : Bool :=
  e.line == line && e.flags.manual && !e.flags.topupManual && e.state == .pending

/-- An owed volume added to the first entry that is the line's manual part, its mass and tolerance
recomputed (R29, R34, R70). -/
def State.addToManual (s : State) (line owed : Nat) : List Entry → List Entry
  | [] => []
  | e :: rest =>
    if e.manualPartOf line then
      let mass := (s.densityOf e.code).map fun rho => massOf (e.volume + owed) rho
      { e with volume := e.volume + owed, mass := mass, tol := tolerance s.settings (mass.getD 0) } :: rest
    else e :: s.addToManual line owed rest

/-- One entry of a plan recomputed where its mark is stale (R70). -/
def State.recomputeAt (s : State) (entries : List Entry) (i : Nat) : Except Nat (List Entry) :=
  match entries[i]? with
  | none => .ok entries
  | some e =>
    match e.pos with
    | none => .ok entries
    | some p =>
      let c := s.canisters[p]
      if c.mark = e.mark then .ok entries
      else if c.configured && c.code == e.code then
        match s.rebaseEntry c e with
        | .ok e' => .ok (entries.set i e')
        | .error line => .error line
      else
        let owed := e.remaining * e.d
        let closed := entries.set i (closeEntry e)
        if closed.any (Entry.manualPartOf e.line) then .ok (s.addToManual e.line owed closed)
        else .ok (closed ++ [s.manualEntry e.round e.line e.code owed { recalibrated := true }])

/-- An entry that take-up or a retry may recompute: PENDING or PARTIAL (R69, R70). -/
def EntryState.recomputable : EntryState → Bool
  | .pending | .partialShot => true
  | _ => false

/-- The PENDING and PARTIAL entries at the places listed recomputed one after another; the first that is LINE_TOO_LARGE
names its line (R69, log 57). -/
def State.recomputeAll (s : State) (entries : List Entry) : List Nat → Except Nat (List Entry)
  | [] => .ok entries
  | i :: rest =>
    match entries[i]? with
    | some e =>
      if e.state.recomputable then
        match s.recomputeAt entries i with
        | .ok es => s.recomputeAll es rest
        | .error line => .error line
      else s.recomputeAll entries rest
    | none => s.recomputeAll entries rest

/-- A PARTIAL entry with nothing left becomes DONE with no shot (R69, R107). -/
def Entry.closeIfEmpty (e : Entry) : Entry :=
  if e.state = .partialShot ∧ e.remaining = 0 then { e with state := .done } else e

/-- The remainder of an entry on the canister of its position, with the settings in force (R38). -/
def State.remainderOf (s : State) (e : Entry) : Option Remainder :=
  e.pos.map fun p =>
    { target := e.remainderTarget s.settings s.canisters[p], strokes := strokesOf e.remaining s.canisters[p].c }

/-- A PARTIAL entry takes its remainder, which stands until the entry is served (R38, R69, log 55). -/
def State.withRemainder (s : State) (e : Entry) : Entry :=
  if e.state = .partialShot then { e with owed := s.remainderOf e } else e

/-- The take-up of an order's partial plan as the active plan (R69). -/
def State.takeUp (s : State) (o : Order) (plan : PlanContext) (p : Position) :
    Except PlanFailure PlanContext :=
  match s.recomputeAll plan.entries (List.range plan.entries.length) with
  | .error i => .error (.tooLarge i)
  | .ok es =>
    match ({ plan with
        entries := es.map fun e => s.withRemainder e.closeIfEmpty, gentle := s.readGentle o }
          : PlanContext).summed o.available with
    | .error f => .error f
    | .ok q => .ok { q with entries := orderEntries p q.entries }

/-- The active plan with one entry recomputed before it is served again (R70). -/
def State.recomputeEntry (s : State) (o : Order) (plan : PlanContext) (i : Nat) :
    Except PlanFailure PlanContext :=
  match s.recomputeAt plan.entries i with
  | .error line => .error (.tooLarge line)
  | .ok es => ({ plan with entries := es } : PlanContext).summed o.available

/-! ## Partial plans (R68) -/

/-- An entry as the partial plan keeps it (R68). -/
def Entry.toPartial (e : Entry) : Entry :=
  match e.state, e.flags.manual with
  | .active, false => if e.delivered = 0 then { e with state := .pending, measured := none, owed := none }
                      else { e with state := .partialShot, owed := none }
  | .active, true => { e with state := .pending }
  | .failed, false => { e with state := .partialShot }
  | .failed, true => { e with state := .done }
  | _, _ => e

/-- The plan context as the order's partial plan (R68). -/
def PlanContext.toPartial (p : PlanContext) : PlanContext :=
  { p with entries := p.entries.map Entry.toPartial }

/-! ## Remake (R72, R73) -/

/-- An entry after the reset of R72. -/
def Entry.afterReset (e : Entry) : Entry :=
  if e.flags.trimmed then e
  else { e with
    state := .pending, delivered := 0, deliveredVolume := 0, topup := 0, measured := none,
    additionGiven := false, owed := none, flags := { e.flags with recalibrated := false } }

/-- The plan context after the reset of R72. -/
def PlanContext.afterReset (p : PlanContext) : PlanContext :=
  { p with
    entries := (p.entries.filter fun e => !e.appended).map Entry.afterReset, resetDue := false }

/-- A line all of whose entries are TRIMMED, which a remake does not evaluate (R73). -/
def lineTrimmed (entries : List Entry) (line : Nat) : Bool :=
  (entries.filter fun e => e.line == line).all fun e => e.flags.trimmed

/-- An automatic part keeps the mass and tolerance of an entry the line had with the same position, mark
and steps, other than one closed by R70 (R73 step 4). -/
def keepMass (before : List Entry) (e : Entry) : Entry :=
  match before.find? (fun b => b.line == e.line && b.placed && !b.flags.recalibrated
      && b.pos == e.pos && b.mark == e.mark && b.steps == e.steps) with
  | some b => if e.placed then { e with mass := b.mass, tol := b.tol } else e
  | none => e

/-- One line evaluated anew at a remake (R73). `before` are the plan's entries as they stood. -/
def State.remakeLine (s : State) (sc : Scale) (before : List Entry) (l : LineRecord) :
    Except Nat (LineRecord × List Entry) :=
  let pair := s.chooseCanisters l.code
  match pair.1 with
  | none =>
    .ok ({ l with firstPos := none, firstMark := 0, steps := none },
         [s.manualEntry 0 l.index l.code l.required {}])
  | some p =>
    let c := s.canisters[p]
    let n := lineSteps sc l.amount c.d
    let kept := decide (l.firstPos = some p) && decide (l.firstMark = c.mark) && l.steps.isSome
    if !kept && decide (Config.maxSteps < n) then .error l.index
    else
      let shot := minimumShot n c.m
      let steps := if kept then l.steps.getD 0 else shot.steps
      let record := { l with firstPos := some p, firstMark := c.mark, steps := some steps }
      if steps = 0 then .ok (record, [s.trimmedEntry 0 l.index l.code (some p) {}])
      else
        match s.splitLine 0 record steps shot.isClamped p pair.2 with
        | .ok es => .ok (record, es.map (keepMass before))
        | .error i => .error i

/-- Every line of a plan at a remake: those not TRIMMED evaluated anew (R73). -/
def State.remakeLines (s : State) (sc : Scale) (before reset : List Entry) :
    List LineRecord → Except Nat (List LineRecord × List Entry)
  | [] => .ok ([], [])
  | l :: rest =>
    let here : Except Nat (LineRecord × List Entry) :=
      if lineTrimmed reset l.index then .ok (l, reset.filter fun e => e.line == l.index)
      else s.remakeLine sc before l
    match here with
    | .error i => .error i
    | .ok (record, es) =>
      match s.remakeLines sc before reset rest with
      | .error i => .error i
      | .ok (records, more) => .ok (record :: records, es ++ more)

/-- The plan after REMAKE: reset by R72 and every line evaluated anew by R73. The GENTLE record is read afresh, as at
any PLANNING, while the line records keep their attributes (R53, R65, log 47). -/
def State.remakePlan (s : State) (o : Order) (plan : PlanContext) (p : Position) :
    Except PlanFailure PlanContext :=
  let reset := plan.afterReset
  match s.remakeLines o.scale plan.entries reset.entries plan.lines with
  | .error i => .error (.tooLarge i)
  | .ok (records, es) =>
    match ({ reset with lines := records, entries := es, gentle := s.readGentle o } : PlanContext).summed
        (headroom o.cls o.fill) with
    | .error f => .error f
    | .ok q => .ok { q with entries := orderEntries p q.entries }

end Sys2Proof.Machine
end

