-- ==== Sys2Proof/Machine/Ops.lean ====
section
/-! DEFINITION. The shared operations on the state: notices, order records, fault records, the canister
account, the line mode, the free draws, and what ends every command. -/

namespace Sys2Proof.Machine

/-! ## The notice queue (R163, R164) -/

/-- What an ATTENTION notice is about; two notices of one subject merge (R164). -/
inductive Subject where
  | table (pos : Position)
  | carousel
  | wait (order : Nat) (pos : Position)
  | step (order entry : Nat)
  | noOrder
  | liddedTin
  | lids (cls : TinClass)
  | estop
  deriving DecidableEq, Repr

/-- The subject of a notice; PROGRESS and FAULT notices have none (R164). -/
def NoticeBody.subject : NoticeBody → Option Subject
  | .canisterLow pos _ _ _ => some (.table pos)
  | .canisterDry order pos _ _ _ _ => if order = 0 then some (.table pos) else some (.wait order pos)
  | .canisterUnseated order positions _ =>
    if order = 0 then some .carousel else positions.head?.map (.wait order)
  | .manualStep order entry _ _ _ _ => some (.step order entry)
  | .noOrderForTin _ _ => some .noOrder
  | .liddedTin _ => some .liddedTin
  | .lidsOut _ cls _ => some (.lids cls)
  | .estop _ => some .estop
  | .orderState .. | .shotDone .. | .tinReady .. | .orderEnded .. | .lineMode .. | .storeSaved ..
  | .started .. | .stationFault .. => none

/-- Two notices have one subject (R164). -/
def NoticeBody.sameSubject (a b : NoticeBody) : Bool := a.subject.isSome && a.subject == b.subject

/-- The contents of a merged entry: those of the new notice, and for the carousel's CANISTER_UNSEATED the
positions of every notice merged into it (R164). -/
def NoticeBody.mergedWith (old new : NoticeBody) : NoticeBody :=
  match old, new with
  | .canisterUnseated 0 ps _, .canisterUnseated 0 qs code =>
    .canisterUnseated 0 (ps ++ qs.filter fun q => !ps.contains q) code
  | _, _ => new

/-- An entry after a merge: its repeat count rises by one, stopping at 255 (R164). -/
def Notice.merged (n : Notice) (b : NoticeBody) : Notice :=
  { body := n.body.mergedWith b, count := min 255 (n.count + 1) }

/-- The queue with a notice merged into its first entry of the same subject, when there is one (R164). -/
def mergeNotice (b : NoticeBody) : List Notice → Option (List Notice)
  | [] => none
  | n :: rest =>
    if n.body.sameSubject b then some (n.merged b :: rest)
    else (mergeNotice b rest).map (n :: ·)

/-- A PROGRESS entry. -/
def Notice.isProgress (n : Notice) : Bool := n.body.cls == .progress

/-- The notice queue after one notice: merged, appended, appended in place of the oldest PROGRESS entry, or
discarded (R163, R164, log 21). -/
def queueNotice (q : List Notice) (b : NoticeBody) : List Notice :=
  match mergeNotice b q with
  | some q' => q'
  | none =>
    if q.length < Config.noticeQueueSize then q ++ [{ body := b, count := 1 }]
    else if q.any Notice.isProgress then q.eraseP Notice.isProgress ++ [{ body := b, count := 1 }]
    else q

/-- Append a notice (R163). -/
def State.notify (s : State) (b : NoticeBody) : State := { s with notices := queueNotice s.notices b }

/-! ## Order records (R1, R5, R6) -/

/-- The live order of a number (R1). -/
def State.order? (s : State) (n : Nat) : Option Order := s.book.orders.find? fun o => o.number == n

/-- Change the record of an order. -/
def State.modOrder (s : State) (n : Nat) (f : Order → Order) : State :=
  { s with book := { s.book with orders := s.book.orders.map fun o => if o.number = n then f o else o } }

/-- The ORDER_STATE notice of a record (R5). -/
def Order.stateNotice (o : Order) : NoticeBody := .orderState o.number o.state (o.tin.getD 0) o.pendingEnd

/-- Append ORDER_STATE for an order as it stands (R5). -/
def State.notifyOrder (s : State) (n : Nat) : State :=
  match s.order? n with
  | some o => s.notify o.stateNotice
  | none => s

/-- Change an order's state; a change appends ORDER_STATE (R5). -/
def State.changeOrder (s : State) (n : Nat) (st : OrderState) : State :=
  match s.order? n with
  | some o => if o.state = st then s else (s.modOrder n fun o => { o with state := st }).notifyOrder n
  | none => s

/-- Set an order flag (R4). -/
def State.setFlag (s : State) (n : Nat) (f : OrderFlags → OrderFlags) : State :=
  s.modOrder n fun o => { o with flags := f o.flags }

/-- Take a station's work off an order's route (R7). -/
def State.setRoute (s : State) (n : Nat) (f : Route → Route) : State :=
  s.modOrder n fun o => { o with route := f o.route }

/-- The pending end of an order. -/
def State.pendingEndOf (s : State) (n : Nat) : Option PendingEnd := (s.order? n).bind (·.pendingEnd)

/-- Set the pending end, unless one is already recorded (R16, R155). -/
def State.setPendingEnd (s : State) (n : Nat) (e : PendingEnd) : State :=
  s.modOrder n fun o => { o with pendingEnd := some (o.pendingEnd.getD e) }

/-! ## Fault records (R6, R153) -/

/-- The actions a fault allows (R153). `remake` holds in round 0 while a plan stands. -/
def FaultKind.actions (k : FaultKind) (station : Dest) (onTransfer remake : Bool) : List Action :=
  let orRemake := if remake then [Action.remake] else []
  match k with
  | .under | .stall | .unseated => [.retryShot, .skipShot, .scrap] ++ orRemake
  | .over | .sensor | .unweighed => [.accept, .scrap] ++ orRemake
  | .lost => [.retry, .scrap] ++ orRemake
  | .plan => [.cancel, .release]
  | .lidded => [.scrap]
  | .jam => [.confirm, .scrap]
  | .clamp | .imbalance => [.retry, .scrap]
  | .seat => [.retry, .pass, .scrap]
  | .estop => if station = .dispense ∧ !onTransfer then [.retry, .scrap] ++ orRemake else [.retry, .scrap]

/-- REMAKE is stored only in round 0, and only while there is a plan to keep (R71, R153). -/
def State.remakeStored (s : State) (o : Order) : Bool :=
  decide (o.rounds.length ≤ 1) && s.station.plan.isSome

/-- A fault raised against an order: the record is stored and the order becomes HELD, or the record in place
stays (R6). -/
def State.hold (s : State) (n : Nat) (station : Dest) (k : FaultKind) (onTransfer : Bool)
    (entry : Option Nat) : State :=
  match s.order? n with
  | none => s
  | some o =>
    if o.fault.isSome then s
    else
      (s.modOrder n fun o => { o with
        fault := some { station := station, kind := k, onTransfer := onTransfer, entry := entry,
                        allowed := k.actions station onTransfer (s.remakeStored o) }
        beforeHold := some o.state
        state := .held }).notifyOrder n

/-- The fault record removed and the state before hold restored (R6). -/
def State.unhold (s : State) (n : Nat) : State :=
  match s.order? n with
  | none => s
  | some o =>
    if o.fault.isSome then
      (s.modOrder n fun o => { o with
        fault := none, state := o.beforeHold.getD o.state, beforeHold := none }).notifyOrder n
    else s

/-- The count of MANUAL entries that are PENDING in the plan (R86). -/
def State.pendingManual (s : State) : Nat :=
  match s.station.plan with
  | some p => p.entries.countP fun e => e.flags.manual && e.state == .pending
  | none => 0

/-- A fault of a bay, the lidder or a transfer: the record, then STATION_FAULT (R116, R118, R126, R137). -/
def State.faultAtDest (s : State) (n : Nat) (d : Dest) (k : FaultKind) (onTransfer : Bool) : State :=
  (s.hold n d k onTransfer none).notify (.stationFault n d k none 0 .none)

/-! ## Freeing (R20) -/

/-- A lane when its order is freed: a COLLECT or CHECK tin still standing is to be lifted, and with no tin sensed the
lane is EMPTY at once (R20, R141, log 52). -/
def LaneRecord.freed (l : LaneRecord) (n : Nat) : LaneRecord :=
  match l.tin with
  | none => l
  | some t =>
    if t.order = n then
      match l.state with
      | .collect | .check => { l with state := if l.present then .clearing else .empty, tin := none }
      | .empty | .reserved | .clearing => { l with tin := none }
    else l

/-- Free an order with a reason: ORDER_ENDED, the return slot, the tin in its lane and the record (R20). -/
def State.freeOrder (s : State) (n : Nat) (reason : EndReason) : State :=
  match s.order? n with
  | none => s
  | some o =>
    let s := s.notify (.orderEnded n o.admission reason o.delivered)
    { s with
      book := { s.book with
        orders := s.book.orders.filter fun o => o.number != n
        slot := if s.book.slot = some n then none else s.book.slot }
      lanes := Vector.ofFn fun i : Lane => s.lanes[i].freed n }

/-- The reason a pending end frees with (R20). -/
def PendingEnd.reason : PendingEnd → EndReason
  | .cancelled => .cancelled
  | .scrapped => .scrapped

/-- A lift at a clearing state: an order with a pending end is freed with that reason (R20). -/
def State.reportLift (s : State) (n : Nat) : State :=
  match s.pendingEndOf n with
  | some e => s.freeOrder n e.reason
  | none => s

/-! ## The canister account (R47 to R49) -/

/-- Change a canister record. -/
def State.modCanister (s : State) (p : Position) (f : Canister → Canister) : State :=
  { s with canisters := s.canisters.set p (f s.canisters[p]) }

/-- The low and dry notices armed by what the record shows (R42, R44, R59). -/
def Canister.rearmed (c : Canister) : Canister :=
  { c with lowArmed := c.configured && !c.isLow, dryArmed := c.configured && !c.isDry }

/-- The level lowered and the in-progress mark removed (R47). -/
def Canister.debited (c : Canister) (steps : Nat) : Canister :=
  { c with level := c.level - steps * c.d, drawing := false }

/-- The record after the notices of a debit: each given is disarmed, and a dry notice speaks for a low one
that falls due with it (R48, R49). -/
def Canister.disarmed (c : Canister) : Canister :=
  if c.isDry && c.dryArmed then { c with dryArmed := false, lowArmed := c.lowArmed && !c.isLow }
  else if c.isLow && c.lowArmed then { c with lowArmed := false }
  else c

/-- The notice of a debit, when one falls due (R48, R49). -/
def Canister.debitNotice (c : Canister) (p : Position) : Option NoticeBody :=
  if c.isDry && c.dryArmed then some (.canisterDry 0 p c.code c.level c.usable none)
  else if c.isLow && c.lowArmed then some (.canisterLow p c.code c.level c.low)
  else none

/-- The end of a stroke at a position, with the steps it delivered (R47). -/
def State.debit (s : State) (p : Position) (steps : Nat) : State :=
  let c := s.canisters[p].debited steps
  let s := s.modCanister p fun _ => c.disarmed
  match c.debitNotice p with
  | some b => s.notify b
  | none => s

/-! ## Tin ids (R12) -/

/-- Some live order holds the tin id. -/
def Book.holdsTin (b : Book) (id : Nat) : Bool := b.orders.any fun o => o.tin == some id

/-- The first tin id after the last one assigned that no live order holds (R12). -/
def Book.nextTin (b : Book) : Nat :=
  let ids := (List.range 255).map fun k => (b.lastTin + k) % 255 + 1
  (ids.find? fun id => !b.holdsTin id).getD (b.lastTin % 255 + 1)

/-- A new tin id assigned to an order (R12, R71). -/
def State.assignTin (s : State) (n : Nat) : State :=
  let id := s.book.nextTin
  let s := s.modOrder n fun o => { o with tin := some id }
  { s with book := { s.book with lastTin := id } }

/-! ## The line mode (R144) -/

/-- Change the line mode and the pending request; a change of mode appends LINE_MODE (R144). -/
def State.setMode (s : State) (m : LineMode) (p : Option PendingMode) : State :=
  let t := { s with line := { s.line with mode := m, pendingMode := p } }
  if s.line.mode = m then t else t.notify (.lineMode m p)

/-! ## Free draws (log 40) -/

/-- The next draw among the values the spec leaves open. -/
def State.draw (s : State) : Nat := Config.freeValue s.freeCount

/-- The draw taken. -/
def State.drawn (s : State) : State := { s with freeCount := s.freeCount + 1 }

/-- The position a move shows when the drive has counted some places, at most those of the move (R55, R56). -/
def MoveRecord.counted (m : MoveRecord) (travelled : Nat) : Position :=
  let k := min travelled m.places
  match m.direction with
  | .forward => ⟨(m.origin.val + k) % 24, Nat.mod_lt _ (by decide)⟩
  | .backward => ⟨(m.origin.val + 24 - k) % 24, Nat.mod_lt _ (by decide)⟩

/-- The carousel's position as it stands: a free value among the places of its path while it moves (section 3.5,
log 10). -/
def State.shownPosition (s : State) : Position :=
  match s.positioner.move with
  | some m => m.counted (s.draw % (m.places + 1))
  | none => s.positioner.position

/-- The draw of a position shown in motion taken (log 10). -/
def State.drawnInMotion (s : State) : State := if s.positioner.move.isSome then s.drawn else s

/-! ## Stations, bays and records -/

/-- Change the dispense station. -/
def State.modStation (s : State) (f : Station → Station) : State := { s with station := f s.station }

/-- A bay. -/
def State.bay (s : State) : BayId → Bay
  | .one => s.bayOne
  | .two => s.bayTwo

/-- Change a bay. -/
def State.modBay (s : State) (b : BayId) (f : Bay → Bay) : State :=
  match b with
  | .one => { s with bayOne := f s.bayOne }
  | .two => { s with bayTwo := f s.bayTwo }

/-- Change the lidder. -/
def State.modLidder (s : State) (f : Lidder → Lidder) : State := { s with lidder := f s.lidder }

/-- Change a lane. -/
def State.modLane (s : State) (l : Lane) (f : LaneRecord → LaneRecord) : State :=
  { s with lanes := s.lanes.set l (f s.lanes[l]) }

/-- The transfer record to a destination (R112). -/
def Conveyor.record (c : Conveyor) : Dest → Option Transfer
  | .dispense => c.toDispense
  | .bay .one => c.toBayOne
  | .bay .two => c.toBayTwo
  | .lidder => c.toLidder
  | .outlet => c.toOutlet

/-- Set or discard the transfer record to a destination. -/
def Conveyor.setRecord (c : Conveyor) (d : Dest) (t : Option Transfer) : Conveyor :=
  match d with
  | .dispense => { c with toDispense := t }
  | .bay .one => { c with toBayOne := t }
  | .bay .two => { c with toBayTwo := t }
  | .lidder => { c with toLidder := t }
  | .outlet => { c with toOutlet := t }

/-- The transfer record to a destination. -/
def State.record (s : State) (d : Dest) : Option Transfer := s.conveyor.record d

/-- Set or discard the transfer record to a destination. -/
def State.setRecord (s : State) (d : Dest) (t : Option Transfer) : State :=
  { s with conveyor := s.conveyor.setRecord d t }

/-- The settle in progress abandoned: the cell returns to IDLE and hands nothing (R100). -/
def State.abandonSettle (s : State) : State :=
  { s with weigh := { s.weigh with settling := false, span := [] } }

/-! ## What ends every command -/

/-- A waiting stroke is put off at once when starts become withheld (R77, log 19). -/
def State.holdWaiting (s : State) : State :=
  if s.station.state = .waitCanister ∧ !s.startsAllowed then
    s.modStation fun st => { st with state := .pausedHold, resume := some .strokeCheck, finding := none }
  else s

/-- The transmitter chooses its next frame when it is free: the oldest request's reply, else the oldest
notice, which leaves the queue (R162). -/
def State.chooseFrame (s : State) : State :=
  if s.link.tx = .idle ∧ s.link.cts then
    match s.link.queue.head?.bind (·.reply) with
    | some r => { s with link := { s.link with tx := .sendingReply r } }
    | none =>
      match s.notices with
      | n :: rest => { s with notices := rest, link := { s.link with tx := .sendingNotice n.body.kind noticeTag n } }
      | [] => s
  else s

/-- A HALTED record on which RETRY was taken runs again (R118). -/
def resumeRecord : Option Transfer → Option Transfer
  | some t =>
    if t.state = .halted ∧ t.retried then some { t with state := .running, retried := false } else some t
  | none => none

/-- The HALTED records that wait for starts run again when starts are allowed (R118). -/
def State.resumeHalted (s : State) : State :=
  if s.startsAllowed then
    { s with conveyor := { s.conveyor with
        toDispense := resumeRecord s.conveyor.toDispense
        toBayOne := resumeRecord s.conveyor.toBayOne
        toBayTwo := resumeRecord s.conveyor.toBayTwo
        toLidder := resumeRecord s.conveyor.toLidder
        toOutlet := resumeRecord s.conveyor.toOutlet } }
  else s

/-- RTS is asserted while the input queue holds fewer than 4 requests, and never between the supply warning
and the STARTED notice (R157). -/
def State.updateRts (s : State) : State :=
  { s with link := { s.link with
      rts := !s.supply.warned && decide (s.link.queue.length < Config.inputQueueSize) } }

/-- What every command ends with: a waiting stroke put off, the next frame chosen, halted transfers resumed
and RTS set. -/
def State.finish (s : State) : State := s.holdWaiting.chooseFrame.resumeHalted.updateRts

/-- A command of a working controller: while warned is yes nothing is taken (R171), else the command's
effect, then what ends every command. -/
def State.command (s : State) (f : State → State) : Host.Outcome State Fault Refusal :=
  if s.supply.warned then .next s else .next (f s).finish

end Sys2Proof.Machine
end

