-- ==== Sys2Proof/Machine/Operands.lean ====
section
/-! DEFINITION. The byte formats of the link (sections 10.1 and 10.7): the check of a frame, the search of
received bytes for frames, the fields of request payloads and the bytes of the laid-out records. Layouts the
spec does not give are the model's own (log 5). -/

namespace Sys2Proof.Machine

/-! ## Frames (R158, R159) -/

/-- One bit of the CRC register's movement: shift out the top bit, and add the polynomial 0x1021 when it was
set (R158). -/
def crcShift (r : BitVec 16) : BitVec 16 := if r.msb then (r <<< 1) ^^^ 0x1021#16 else r <<< 1

/-- The CRC register after one byte, most significant bit first (R158). -/
def crcByte (r : BitVec 16) (b : Byte) : BitVec 16 :=
  crcShift (crcShift (crcShift (crcShift (crcShift (crcShift (crcShift (crcShift
    (r ^^^ (b.setWidth 16 <<< 8)))))))))

/-- The CRC-16 of some bytes (R158). -/
def crc16 (bs : List Byte) : BitVec 16 := bs.foldl crcByte 0xFFFF#16

/-- The two check bytes, high byte first (R158). -/
def crcBytes (bs : List Byte) : List Byte := Bytes.ofNat 2 (crc16 bs).toNat

/-- The bytes of a frame (R158). -/
def frameBytes (kind tag : Byte) (payload : List Byte) : List Byte :=
  let body := BitVec.ofNat 8 payload.length :: kind :: tag :: payload
  0xA5 :: body ++ crcBytes body

/-- What the search of the received bytes finds first (R159). -/
inductive Scan where
  | incomplete
  | drop
  | frame (kind tag : Byte) (payload rest : List Byte)
  deriving DecidableEq, Repr

/-- Read the bytes from one place: a start byte with a whole valid frame behind it, a byte to drop (no start
byte, a length above 240 or a check that fails), or not enough bytes yet (R159). -/
def scanAt : List Byte → Scan
  | [] => .incomplete
  | b :: rest =>
    if b ≠ 0xA5 then .drop
    else
      match rest with
      | [] => .incomplete
      | l :: more =>
        if 240 < l.toNat then .drop
        else if more.length < l.toNat + 4 then .incomplete
        else
          let body := l :: more.take (l.toNat + 2)
          if (more.drop (l.toNat + 2)).take 2 = crcBytes body then
            .frame (more.getD 0 0) (more.getD 1 0) ((more.drop 2).take l.toNat) (more.drop (l.toNat + 4))
          else .drop

/-- A request as its frame brings it. -/
structure Frame where
  kind : Byte
  tag : Byte
  payload : List Byte
  deriving DecidableEq, Repr

/-- Search received bytes from the front: the valid frames in order, and the bytes of the frame not yet
whole (R159). `fuel` is at least the number of bytes plus one. -/
def scanBytes : Nat → List Byte → List Frame × List Byte
  | 0, bs => ([], bs)
  | fuel + 1, bs =>
    match scanAt bs with
    | .incomplete => ([], bs)
    | .drop => scanBytes fuel bs.tail
    | .frame k t p rest =>
      let (fs, left) := scanBytes fuel rest
      ({ kind := k, tag := t, payload := p } :: fs, left)

/-! ## Request payloads -/

/-- One formula line as sent, with its place in the list (R168). -/
def lineAt (p : List Byte) (base i : Nat) : FormulaLine :=
  { index := i, code := Bytes.field p (base + 3 * i) 1, amount := Bytes.field p (base + 3 * i + 1) 2 }

/-- The lines of a payload from an offset, as sent (R168). -/
def linesAt (p : List Byte) (base count : Nat) : List FormulaLine :=
  (List.range count).map (lineAt p base)

/-- One line added to a round: to the line of its code, or after the others (R3). -/
def mergeLine (lines : List FormulaLine) (l : FormulaLine) : List FormulaLine :=
  if lines.any fun k => k.code == l.code then
    lines.map fun k => if k.code = l.code then { k with amount := k.amount + l.amount } else k
  else lines ++ [l]

/-- Lines of one code merged at the place of the first (R3). -/
def mergeLines (lines : List FormulaLine) : List FormulaLine := lines.foldl mergeLine []

/-- The mix profile of a code 0 to 3 (R168). -/
def MixProfile.ofCode : Nat → Option MixProfile
  | 0 => some .standard
  | 1 => some .long
  | 2 => some .gentle
  | 3 => some .short
  | _ => none

/-- The code of a mix profile (R168). -/
def MixProfile.code : MixProfile → Nat
  | .standard => 0
  | .long => 1
  | .gentle => 2
  | .short => 3

/-- The fields of ORDER_SUBMIT, its lines merged (R8). -/
structure Submission where
  number : Nat
  rush : Bool
  holdOpen : Bool
  cls : TinClass
  fill : Nat
  vref : Nat
  strength : Nat
  profile : MixProfile
  lines : List FormulaLine
  deriving DecidableEq, Repr

/-- Every code of the lines is 1 to 250. -/
def codesInRange (lines : List FormulaLine) : Bool :=
  lines.all fun l => decide (1 ≤ l.code) && decide (l.code ≤ 250)

/-- The fields of an ORDER_SUBMIT payload, when each is in its range; the order number is checked only where
it is used (R8 check 2, R64). -/
def readSubmission (p : List Byte) (withNumber : Bool) : Option Submission :=
  let number := Bytes.field p 0 2
  let fill := Bytes.field p 4 2
  let vref := Bytes.field p 6 2
  let strength := Bytes.field p 8 2
  let count := Bytes.field p 11 1
  let lines := linesAt p 12 count
  match TinClass.ofCode (Bytes.field p 3 1), MixProfile.ofCode (Bytes.field p 10 1) with
  | some cls, some profile =>
    if (withNumber && number == 0) || decide (fill < 100) || decide (nominal cls < fill)
        || decide (vref < 100) || decide (20000 < vref) || decide (strength < 100)
        || decide (4000 < strength) || decide (count < 1) || decide (12 < count) || !codesInRange lines then
      none
    else
      some { number := number, rush := Bytes.bit p 2 0, holdOpen := Bytes.bit p 2 1, cls := cls, fill := fill,
             vref := vref, strength := strength, profile := profile, lines := mergeLines lines }
  | _, _ => none

/-- The length check of ORDER_SUBMIT: the fixed part plus the lines, and one byte more for PLAN_PREVIEW
(R8 check 1, R64, R168). -/
def submissionLength (p : List Byte) (extra : Nat) : Bool :=
  decide (12 ≤ p.length) && p.length == 12 + 3 * Bytes.field p 11 1 + extra

/-- The fields of a CANISTER_SET payload (R41, R168). -/
structure CanisterFields where
  pos : Position
  code : Nat
  role : Role
  d : Nat
  rho : Nat
  c : Nat
  m : Nat
  capacity : Nat
  floor : Nat
  low : Nat
  level : Nat
  deriving DecidableEq, Repr

/-- A position byte (R168). -/
def readPosition (n : Nat) : Option Position := if h : n < 24 then some ⟨n, h⟩ else none

/-- The role of a code (R168). -/
def Role.ofCode : Nat → Option Role
  | 0 => some .primary
  | 1 => some .reserve
  | _ => none

/-- The code of a role (R168). -/
def Role.code : Role → Nat
  | .primary => 0
  | .reserve => 1

/-- A number within its range, both ends included. -/
def inRange (n low high : Nat) : Bool := decide (low ≤ n) && decide (n ≤ high)

/-- The fields of CANISTER_SET, when each is in its range (R41 check 2). -/
def readCanister (p : List Byte) : Option CanisterFields :=
  match readPosition (Bytes.field p 0 1), Role.ofCode (Bytes.field p 2 1) with
  | some pos, some role =>
    let f : CanisterFields :=
      { pos := pos, code := Bytes.field p 1 1, role := role, d := Bytes.field p 3 2, rho := Bytes.field p 5 2,
        c := Bytes.field p 7 2, m := Bytes.field p 9 2, capacity := Bytes.field p 11 2,
        floor := Bytes.field p 13 8, low := Bytes.field p 21 2, level := Bytes.field p 23 8 }
    if inRange f.code 1 250 && inRange f.d 200 20000 && inRange f.rho 800 2500 && inRange f.c 500 20000
        && inRange f.m 1 2000 && inRange f.capacity 500 5000 && decide (f.floor ≤ f.capacity * 500000)
        && decide (f.low ≤ f.capacity) then some f
    else none
  | _, _ => none

/-- The fields of CLASS_SET, when each is in its range (R52; layout log 5): entry, enabled, first, last and
attributes, bit 0 LATE, 1 GENTLE, 2 HOLD, 3 WEIGH. -/
def readClass (p : List Byte) : Option (Fin 6 × ClassEntry) :=
  let n := Bytes.field p 0 1
  let first := Bytes.field p 2 1
  let last := Bytes.field p 3 1
  if h : n < 6 then
    if inRange first 1 250 && inRange last 1 250 && decide (first ≤ last)
        && decide (Bytes.field p 4 1 < 16) then
      some (⟨n, h⟩, { enabled := Bytes.bit p 1 0, first := first, last := last, late := Bytes.bit p 4 0,
                      gentle := Bytes.bit p 4 1, hold := Bytes.bit p 4 2, weigh := Bytes.bit p 4 3 })
    else none
  else none

/-- A value held to its range. -/
def clampTo (n low high : Nat) : Nat := max low (min n high)

/-- The seven settings a SETTINGS_SET payload carries (R167). -/
def readSettings (p : List Byte) : Settings :=
  { tolAbs := Bytes.field p 0 2, tolPm := Bytes.field p 2 2, window := Bytes.field p 4 2,
    standard := Bytes.field p 6 2, long := Bytes.field p 8 2, gentle := Bytes.field p 10 2,
    short := Bytes.field p 12 2 }

/-- The settings with each value held to its range (R110, R123, R167). -/
def Settings.clamped (st : Settings) : Settings :=
  { tolAbs := clampTo st.tolAbs 10 2000, tolPm := clampTo st.tolPm 5 100,
    window := clampTo st.window 500 5000, standard := clampTo st.standard 20 600,
    long := clampTo st.long 20 600, gentle := clampTo st.gentle 20 600, short := clampTo st.short 20 600 }

/-- The fields of MANUAL_DONE (R89; layout log 5): order, entry, flags and mass. -/
structure ManualFields where
  order : Nat
  entry : Nat
  mass : Option Nat
  deriving DecidableEq, Repr

/-- The fields of a MANUAL_DONE payload (R89; layout log 5). -/
def readManual (p : List Byte) : ManualFields :=
  { order := Bytes.field p 0 2, entry := Bytes.field p 2 1,
    mass := if Bytes.bit p 3 1 then some (Bytes.field p 4 4) else none }

/-! ## Status, flags and records as bytes (sections 10.6 and 10.7) -/

/-- The status byte (section 10.6). -/
def Status.code : Status → Nat
  | .ok => 0x00
  | .adjusted => 0x01
  | .unknownKind => 0x10
  | .badLength => 0x11
  | .badField => 0x12
  | .bookFull => 0x20
  | .duplicateOrder => 0x21
  | .noSuchOrder => 0x22
  | .wrongState => 0x23
  | .tooLate => 0x24
  | .returnBusy => 0x25
  | .roundsFull => 0x26
  | .codeHeld => 0x30
  | .overfill => 0x31
  | .lineTooLarge => 0x32
  | .inUse => 0x40
  | .roleTaken => 0x41
  | .mode => 0x50
  | .storeBusy => 0x51
  | .actionNotAllowed => 0x52

/-- Bits, bit 0 first, as a number. -/
def bitsToNat : List Bool → Nat
  | [] => 0
  | b :: rest => b.toNat + 2 * bitsToNat rest

/-- The reply header: status and line flags (R161, R168). -/
def replyHeader (st : Status) (f : LineFlags) : List Byte :=
  Bytes.ofNat 1 st.code
    ++ Bytes.ofNat 1 (bitsToNat [f.congested, f.estop, f.backlog, f.service, f.supplyWarned])

/-- The class byte of a notice (R168). -/
def NoticeClass.code : NoticeClass → Nat
  | .progress => 0
  | .attention => 1
  | .fault => 2

/-- The order a notice carries, or 0 (R168). -/
def NoticeBody.order : NoticeBody → Nat
  | .orderState n _ _ _ | .shotDone n _ _ _ _ _ _ _ | .tinReady n _ _ _ | .orderEnded n _ _ _
  | .manualStep n _ _ _ _ _ | .canisterDry n _ _ _ _ _ | .canisterUnseated n _ _ | .lidsOut n _ _
  | .stationFault n _ _ _ _ _ => n
  | .lineMode _ _ | .storeSaved _ | .started _ _ | .canisterLow _ _ _ _ | .noOrderForTin _ _ | .liddedTin _
  | .estop _ => 0

/-- An entry index byte, 0xFF when absent (R168). -/
def entryIndexCode (i : Option Nat) : Byte := BitVec.ofNat 8 (i.getD 0xFF)

/-- The entry index byte of a notice that carries one (section 10.5, R168). -/
def NoticeBody.entryByte : NoticeBody → Option Byte
  | .shotDone _ entry _ _ _ _ _ _ | .manualStep _ entry _ _ _ _ => some (entryIndexCode (some entry))
  | .stationFault _ _ _ entry _ _ => some (entryIndexCode entry)
  | .orderState .. | .tinReady .. | .orderEnded .. | .lineMode .. | .storeSaved .. | .started ..
  | .canisterLow .. | .canisterDry .. | .canisterUnseated .. | .noOrderForTin .. | .liddedTin .. | .lidsOut ..
  | .estop .. => none

/-- The notice header (R168). -/
def noticeHeader (n : Notice) : List Byte :=
  Bytes.ofNat 1 n.body.cls.code ++ Bytes.ofNat 1 n.count ++ Bytes.ofNat 2 n.body.order

/-- A position byte, 0xFF when absent (R168). -/
def positionCode (p : Option Position) : Nat :=
  match p with
  | some q => q.val
  | none => 0xFF

/-- The state byte of a plan entry (R168). -/
def EntryState.code : EntryState → Nat
  | .pending => 0
  | .active => 1
  | .done => 2
  | .skipped => 3
  | .failed => 4
  | .partialShot => 5

/-- The flag bits of a plan entry (R168). -/
def EntryFlags.code (f : EntryFlags) : Nat :=
  bitsToNat [f.trimmed, f.clampedUp, f.splitPrimary, f.splitReserve, f.late, f.weigh, f.manual,
    f.topupManual, f.recalibrated]

/-- The plan entry record of a PLAN_PREVIEW reply, 39 bytes (R168). -/
def entryBytes (r : EntryReport) : List Byte :=
  let e := r.entry
  Bytes.ofNat 1 r.index ++ Bytes.ofNat 1 e.round ++ Bytes.ofNat 1 e.line ++ Bytes.ofNat 1 e.code
    ++ Bytes.ofNat 1 (positionCode e.pos) ++ Bytes.ofNat 1 e.state.code ++ Bytes.ofNat 2 e.flags.code
    ++ Bytes.ofNat 1 e.mass.isSome.toNat ++ Bytes.ofNat 4 e.steps ++ Bytes.ofNat 2 e.strokes
    ++ Bytes.ofNat 8 e.volume ++ Bytes.ofNat 8 r.required ++ Bytes.ofNat 4 (e.mass.getD 0)
    ++ Bytes.ofNat 4 e.tol

/-- The summary of a PLAN_PREVIEW reply, 21 bytes (R168). -/
def previewSummary (c : PlanCounts) (room entries : Nat) : List Byte :=
  Bytes.ofNat 1 c.automatic ++ Bytes.ofNat 1 c.manual ++ Bytes.ofNat 1 c.trimmed ++ Bytes.ofNat 1 c.clampedUp
    ++ Bytes.ofNat 8 c.total ++ Bytes.ofNat 8 room ++ Bytes.ofNat 1 entries

/-- The canister record, 31 bytes (R168). -/
def canisterBytes (p : Position) (c : Canister) : List Byte :=
  Bytes.ofNat 1 p.val ++ Bytes.ofNat 1 c.code ++ Bytes.ofNat 1 c.role.code ++ Bytes.ofNat 2 c.d
    ++ Bytes.ofNat 2 c.rho ++ Bytes.ofNat 2 c.c ++ Bytes.ofNat 2 c.m ++ Bytes.ofNat 2 c.capacity
    ++ Bytes.ofNat 8 c.floor ++ Bytes.ofNat 2 c.low ++ Bytes.ofNat 8 c.level

/-- The condition byte (R168). -/
def Condition.byte : Condition → Nat
  | .ok => 0
  | .low => 1
  | .dry => 2

/-- The finding byte of CANISTER_QUERY, in which CHANGED does not arise (R46, R168). -/
def Finding.code : Finding → Nat
  | .ready | .changed => 0
  | .unseated => 1
  | .unconfirmed => 2
  | .short => 3

/-- What follows the record in a CANISTER_QUERY reply (R168). -/
def canisterQueryTail (c : Canister) (usable : Nat) (k : Condition) (f : Finding) (used : Bool) : List Byte :=
  Bytes.ofNat 1 c.seated.toNat ++ Bytes.ofNat 1 c.confirmed.toNat ++ Bytes.ofNat 4 c.mark
    ++ Bytes.ofNat 8 usable ++ Bytes.ofNat 1 k.byte ++ Bytes.ofNat 1 f.code ++ Bytes.ofNat 1 used.toNat

/-- What follows the header of a reply, where section 10.7 lays it out: nothing, a preview's summary and records, or a
queried canister's record and what follows it (R64, R168). -/
def ReplyBody.bytes : ReplyBody → Option (List Byte)
  | .none => some []
  | .preview counts room entries records =>
    some (previewSummary counts room entries ++ records.flatMap entryBytes)
  | .canisterQuery pos record usable condition finding inUse =>
    some (canisterBytes pos record ++ canisterQueryTail record usable condition finding inUse)
  | .ident .. | .status _ | .submitted .. | .corrected .. | .line _ | .overfill .. | .order _ | .canister ..
  | .level .. | .classes _ | .lids _ | .settings _ | .cleared .. => Option.none

/-- The payload of a reply, where section 10.7 lays it out whole: the header, then the results (R161, R168). -/
def Reply.payload (r : Reply) : Option (List Byte) := (r.body.bytes).map (replyHeader r.status r.flags ++ ·)

/-- The frame of a reply, where section 10.7 lays its payload out whole (R158, R161). -/
def Reply.frame (r : Reply) : Option (List Byte) := r.payload.map (frameBytes r.kind r.tag)

/-- The kind, the tag and the header of the frame in transmission; section 10.7 lays these out for every reply and
every notice (R161, R162, R168). -/
def Transmitter.front : Transmitter → Option (Byte × Byte × List Byte)
  | .idle => none
  | .sendingReply r => some (r.kind, r.tag, replyHeader r.status r.flags)
  | .sendingNotice kind tag n => some (kind, tag, noticeHeader n)

/-- The kind of a reply (R161). -/
def replyKind (kind : Byte) : Byte := if kind.toNat < 0x80 then kind + 0x80 else 0xFF

end Sys2Proof.Machine
end

