-- ==== Sys2Proof/Machine/Dosing.lean ====
section
/-! DEFINITION. The dispense station's shared operations (chapters 5 and 6): faults, clearing, strokes, the
stroke-start check, settles, phases, the serving of entries, verdicts, top-ups, manual steps, the active plan,
homing and resumption. -/

namespace Sys2Proof.Machine

/-! ## The station's records -/

/-- The order the station serves; 0, which no order carries, when there is none. -/
def State.served (s : State) : Nat := s.station.order.getD 0

/-- Change the plan context. -/
def State.modPlan (s : State) (f : PlanContext → PlanContext) : State :=
  s.modStation fun st => { st with plan := st.plan.map f }

/-- Change one entry of the active plan. -/
def State.modEntry (s : State) (i : Nat) (f : Entry → Entry) : State :=
  s.modPlan fun p => { p with entries := p.entries.modify i f }

/-- Change the state of one entry of the active plan (R61). -/
def State.setEntry (s : State) (i : Nat) (st : EntryState) : State :=
  s.modEntry i fun e => { e with state := st }

/-- Change the current entry record. -/
def State.modCur (s : State) (f : CurrentEntry → CurrentEntry) : State :=
  s.modStation fun st => { st with cur := st.cur.map f }

/-- Change the tin context. -/
def State.modTin (s : State) (f : TinContext → TinContext) : State :=
  s.modStation fun st => { st with tin := st.tin.map f }

/-- Change the station's state. -/
def State.goto (s : State) (st : StationState) : State := s.modStation fun x => { x with state := st }

/-- An entry of the active plan. -/
def State.entry? (s : State) (i : Nat) : Option Entry := s.station.plan.bind fun p => p.entries[i]?

/-- The current entry record with the entry it is about. -/
def State.current? (s : State) : Option (CurrentEntry × Entry) :=
  s.station.cur.bind fun c => (s.entry? c.index).map fun e => (c, e)

/-- The index of the current entry. -/
def State.curIndex (s : State) : Option Nat := s.station.cur.map CurrentEntry.index

/-- The order served carries LIDDED (R78). -/
def State.servedLidded (s : State) : Bool :=
  match s.order? s.served with
  | some o => o.flags.lidded
  | none => false

/-! ## Faults (R86) -/

/-- Raise a fault at the station and go to FAULT_HELD or HALTED (R86, R92). -/
def State.raise (s : State) (k : FaultKind) (entry : Option Nat) (detail : FaultDetail) (st : StationState) :
    State :=
  ((s.hold s.served .dispense k false entry).notify
    (.stationFault s.served .dispense k entry s.pendingManual detail)).goto st

/-- Raise a fault and go to FAULT_HELD (R86). -/
def State.fault (s : State) (k : FaultKind) (entry : Option Nat) (detail : FaultDetail) : State :=
  s.raise k entry detail .faultHeld

/-! ## Clearing (R95) -/

/-- What the fall of the presence sensor does in CLEARING (R95). -/
def State.liftCleared (s : State) : State :=
  let s' := match s.station.order with
    | some n => s.reportLift n
    | none => s
  s'.modStation fun st =>
    { st with state := .idle, order := none, tin := none, plan := none, cur := none, gentle := false,
              freshNeeded := false }

/-- Go to CLEARING; when no tin stands on the station the fall is taken at once (R95). The settle in progress
is abandoned (R100), and the station's requests for its tin end (R113, R131). -/
def State.enterClearing (s : State) : State :=
  let s := s.abandonSettle
  let s := { s with conveyor := { s.conveyor with stationRequest := false } }
  let s := s.modLidder fun l => { l with requesters := l.requesters.filter (· != .dispense) }
  let s := s.modStation fun st =>
    { st with state := .clearing, resume := none, cur := none, finding := none, arrivalWaits := false,
              awaitHoming := false }
  if s.station.present then s else s.liftCleared

/-! ## Strokes (R79 to R82) -/

/-- The carousel is HOMED at the position (R58). -/
def State.positioned (s : State) (p : Position) : Bool :=
  s.positioner.state == .homed && s.positioner.position == p

/-- The stroke begins: the position is marked drawing and the pump runs (R40, R81). -/
def State.beginStroke (s : State) (p : Position) : State :=
  (s.modCanister p fun c => { c with drawing := true }).modStation fun st =>
    { st with state := .stroking, finding := none }

/-- The notice of a wait on a canister (R79). -/
def State.waitNotice (s : State) (p : Position) (code : Nat) (f : Finding) : NoticeBody :=
  let c := s.canisters[p]
  if f = .unseated then .canisterUnseated s.served [p] code
  else .canisterDry s.served p code c.level c.usable (some f)

/-- Wait for the canister: a finding already waited on is not told again (R79, R80). -/
def State.waitCanister (s : State) (p : Position) (code : Nat) (f : Finding) : State :=
  if s.station.state = .waitCanister ∧ s.station.finding = some f then s
  else
    (s.modStation fun st => { st with state := .waitCanister, finding := some f, freshNeeded := true }).notify
      (s.waitNotice p code f)

/-- The stroke-start check (R79), with the LIDDED test before any stroke (R78). -/
def State.strokeCheck (s : State) : State :=
  match s.current? with
  | none => s
  | some (c, e) =>
    match e.pos, c.strokes[c.ended]? with
    | some p, some steps =>
      if s.servedLidded then s.fault .lidded (some c.index) .none
      else if !s.positioned p then
        (if e.delivered = 0 then s else s.setEntry c.index .partialShot).fault .lost (some c.index) .none
      else
        match s.canisters[p].finding e.code steps with
        | .ready => s.beginStroke p
        | f => s.waitCanister p e.code f
    | _, _ => s

/-- The delivered steps of a stroke: its count, held to its steps, or its steps without a count (R81). -/
def strokeDelivered (steps : Nat) (count : Option Nat) : Nat :=
  match count with
  | some k => min k steps
  | none => steps

/-- The steps of the stroke in progress. -/
def CurrentEntry.strokeSteps (c : CurrentEntry) : Nat := c.strokes.getD c.ended 0

/-- What every stroke end does: the debit, the entry's delivered steps and volume, the phase's counts
(R81). -/
def State.endStroke (s : State) (count : Option Nat) : State :=
  match s.current? with
  | none => s
  | some (c, e) =>
    let given := strokeDelivered c.strokeSteps count
    let s := match e.pos with
      | some p => s.debit p given
      | none => s
    (s.modEntry c.index fun e =>
      { e with delivered := e.delivered + given, deliveredVolume := e.deliveredVolume + given * e.d }).modCur
      fun c => { c with
        ended := c.ended + 1, delivered := c.delivered + given, counted := c.counted + count.getD 0,
        countPresent := c.countPresent && count.isSome }

/-- A stroke halted: the count is taken, the entry becomes PARTIAL and the fault is raised (R81, R82); an
order already cancelled goes to CLEARING instead (log 14). -/
def State.haltStroke (s : State) (count : Option Nat) (k : FaultKind) : State :=
  let s := s.endStroke count
  match s.station.cur with
  | none => s
  | some c =>
    let s := s.setEntry c.index .partialShot
    if (s.pendingEndOf s.served).isSome then s.enterClearing
    else s.fault k (some c.index) .none

/-! ## Settles (R99, R100) -/

/-- No reading can be had: the scale fault is asserted or no tin is present (R100). -/
def State.noReading (s : State) : Bool := s.weigh.fault || !s.station.present

/-- Ask the weigh cell for a settled reading; where none can be had its absence is handed at once
(R99, R100). -/
def State.settle (s : State) (why : SettlePurpose) (st : StationState) (absent : State → State) : State :=
  let s := s.modStation fun x => { x with state := st, settleFor := why }
  if s.noReading then absent s
  else { s with weigh := { s.weigh with settling := true, window := s.settings.window, span := [] } }

/-- A reading becomes the last settled reading on the tin; an absent one leaves it (R101). -/
def State.keepReading (s : State) (r : Option Nat) : State :=
  match r with
  | some v => s.modTin fun t => { t with last := some v }
  | none => s

/-! ## Manual steps (R88, R89) -/

/-- Append MANUAL_STEP and wait for the hand: for the deficit, or for the whole entry (R88, R89, R92). The
volume of a deficit without a density is a free value (log 18). -/
def State.issueManual (s : State) (deficit : Bool) : State :=
  match s.current? with
  | none => s
  | some (c, e) =>
    let post (s : State) (volume mass : Nat) : State :=
      (s.notify (.manualStep s.served c.index e.code volume mass e.round)).goto .awaitManual
    match deficit, c.target with
    | true, some t =>
      match s.densityOf e.code with
      | some rho => post s (volumeOf (t.mass - c.judged) rho) (t.mass - c.judged)
      | none => post s.drawn s.draw (t.mass - c.judged)
    | _, _ => post s e.volume (e.mass.getD 0)

/-! ## Phases (R78, R88, R101) -/

/-- The phase begins from a start reading: strokes for the pump, MANUAL_STEP for the hand (R78, R88). -/
def State.startPhase (s : State) (start : Option Nat) : State :=
  match s.station.cur with
  | none => s
  | some c =>
    let s := s.modCur fun c => { c with start := start }
    let s := if c.phase = .topup then s else s.modTin fun t => { t with entryStart := start }
    if c.phase = .manual then (s.issueManual (decide (0 < c.carried))).changeOrder s.served .manual
    else s.strokeCheck

/-- The reading before a phase, or its absence (R78). -/
def State.phaseReading (s : State) (r : Option Nat) : State :=
  ((s.keepReading r).modStation fun st => { st with freshNeeded := false }).startPhase r

/-- The last settled reading on the tin. -/
def State.lastReading (s : State) : Option Nat := s.station.tin.bind TinContext.last

/-- A settle for the start reading of the phase (R78, R80, R88). -/
def State.settlePhase (s : State) : State := s.settle .phaseStart .settling fun s => s.phaseReading none

/-- The phase needs a reading of its own (R78, R88). -/
def State.readingNeeded (s : State) : Bool :=
  s.station.freshNeeded || match s.station.cur with
    | some c => c.phase == .manual && s.lastReading.isNone
    | none => false

/-- The phase begins, with a reading of its own where one is needed (R78, R85, R88). -/
def State.beginPhase (s : State) : State :=
  if s.readingNeeded then s.settlePhase else s.startPhase s.lastReading

/-- The stroke-start check of a waiting stroke: a phase that has not begun a stroke takes a fresh reading first, with
its position not yet marked drawing, and checks again after it (R80, log 44). -/
def State.recheck (s : State) : State :=
  match s.current? with
  | none => s
  | some (c, e) =>
    match e.pos, c.strokes[c.ended]? with
    | some p, some steps =>
      if c.ended = 0 ∧ s.positioned p ∧ s.canisters[p].finding e.code steps = .ready then s.settlePhase
      else s.strokeCheck
    | _, _ => s

/-! ## Moves (R55) -/

/-- The move record from an origin to another target (R55). -/
def moveRecord (origin target : Position) : MoveRecord :=
  let delta : Int := (target.val : Int) - origin.val
  let delta := if 12 < delta then delta - 24 else if delta < -12 then delta + 24 else delta
  let forward := decide (0 < delta) || decide (delta = -12)
  let places := delta.natAbs
  { origin := origin, target := target, direction := if forward then .forward else .backward,
    places := places,
    expected := if forward then (if 23 < origin.val + places then 1 else 0)
                else if origin.val < places then 1 else 0
    passes := 0 }

/-- The station asks for a move to a position; any answer but an arrival or a move begun is LOST, MOVING and HOMING
among them (R55, R78, log 46). -/
def State.beginMove (s : State) (p : Position) : State :=
  if s.positioner.state ≠ .homed then s.fault .lost s.curIndex .none
  else if s.positioner.position = p then s.beginPhase
  else
    ({ s with positioner := { s.positioner with
        state := .moving, move := some (moveRecord s.positioner.position p) } } : State).goto .moving

/-! ## Serving (R78) -/

/-- The remainder an entry is served with: none for a PENDING one, else that computed at take-up or at a retry, or the
present one of an entry that is PARTIAL or has delivered steps (R38, R78, R87). -/
def State.servedRemainder (s : State) (e : Entry) : Option Remainder :=
  if e.state = .pending then none
  else
    match e.owed with
    | some r => some r
    | none => if e.state = .partialShot ∨ 0 < e.delivered then s.remainderOf e else none

/-- The current entry record of an automatic entry: the REMAINDER of one begun, or a SHOT (R38, R78). -/
def State.shotRecord (s : State) (i : Nat) (e : Entry) (c : Canister) : CurrentEntry :=
  let base : CurrentEntry :=
    { index := i, phase := .shot, target := e.mass.map fun m => { mass := m, tol := e.tol }
      judged := 0, carried := 0, start := none, strokes := strokesOf e.steps c.c,
      ended := 0, counted := 0, delivered := 0, countPresent := true, topupUsed := decide (0 < e.topup),
      hostMass := none }
  match s.servedRemainder e with
  | some r => { base with phase := .remainder, target := some r.target, strokes := r.strokes }
  | none => base

/-- The current entry record of a MANUAL entry (R88). -/
def manualRecord (i : Nat) (e : Entry) : CurrentEntry :=
  { index := i, phase := .manual, target := e.mass.map fun m => { mass := m, tol := e.tol },
    judged := e.measured.getD 0, carried := e.measured.getD 0, start := none, strokes := [], ended := 0,
    counted := 0, delivered := 0, countPresent := true, topupUsed := false, hostMass := none }

/-- Begin an entry: LIDDED first, then the entry ACTIVE, its record, and its move or its manual step
(R78, R88). -/
def State.serveEntry (s : State) (i : Nat) : State :=
  match s.entry? i with
  | none => s
  | some e =>
    if s.servedLidded then s.fault .lidded (some i) .none
    else
      let active := s.modEntry i fun e => { e with state := .active, owed := none }
      let record (c : CurrentEntry) : State :=
        active.modStation fun st => { st with cur := some c, resume := none }
      if e.flags.manual then (record (manualRecord i e)).beginPhase
      else
        match e.pos with
        | some p => (record (s.shotRecord i e s.canisters[p])).beginMove p
        | none => s

/-- The next entry: the first automatic one PENDING, ACTIVE or PARTIAL, else the first MANUAL one PENDING or
ACTIVE (R78). -/
def PlanContext.nextEntry (p : PlanContext) : Option Nat :=
  match p.entries.findIdx? fun e => !e.flags.manual && e.state.unfinished with
  | some i => some i
  | none => p.entries.findIdx? fun e => e.flags.manual && e.state.holdsPosition

/-- The delivered volume of a round (R7, R91). -/
def PlanContext.roundVolume (p : PlanContext) : Nat :=
  (p.entries.map fun e =>
    if e.flags.manual then (if e.state = .done then e.volume else 0) else e.deliveredVolume).sum

/-- The tin is offered on: to a bay, or to the lidder (R91, R113, R131). -/
def State.offerTin (s : State) : State :=
  let s := s.modStation fun st => { st with state := .complete, cur := none, resume := none }
  match s.order? s.served with
  | none => s
  | some o =>
    if o.route.mix then { s with conveyor := { s.conveyor with stationRequest := true } }
    else s.modLidder fun l => { l with requesters := l.requesters ++ [.dispense] }

/-- A round marked DELIVERED with its volume, and DISPENSE off the route (R7, R91). -/
def Order.roundDone (o : Order) (volume : Nat) : Order :=
  { o with
    rounds := o.rounds.modify (o.rounds.length - 1) fun r => { r with delivered := true }
    delivered := o.delivered + volume, route := { o.route with dispense := false } }

/-- The round is finished: its volume is summed, the order becomes DISPENSED and the station COMPLETE
(R91). -/
def State.completeRound (s : State) : State :=
  let volume := match s.station.plan with
    | some p => p.roundVolume
    | none => 0
  ((s.modOrder s.served fun o => o.roundDone volume).changeOrder s.served .dispensed).offerTin

/-- The station is to begin an operation that must wait for starts (R77). -/
def State.holdAt (s : State) (r : ResumePoint) : State :=
  s.modStation fun st => { st with state := .pausedHold, resume := some r }

/-- The PLAN fault, with its cause: the plan is discarded and no position stays in use by it (R67, log 20). -/
def State.planFault (s : State) (f : PlanFailure) : State :=
  (s.modStation fun st => { st with plan := none }).fault .plan none f.detail

/-- The plan with its next entry fit to be served: a PARTIAL one whose mark is stale is recomputed first and takes its
remainder anew, and one that this closes gives way to the next (R70, R78). `fuel` is above the number of entries. -/
def State.readyPlan (s : State) (o : Order) (plan : PlanContext) : Nat → Except PlanFailure PlanContext
  | 0 => .ok plan
  | fuel + 1 =>
    match plan.nextEntry.bind fun i => (plan.entries[i]?).map fun e => (i, e) with
    | some (i, e) =>
      if e.state = .partialShot ∧ s.staleMark e then
        match s.recomputeEntry o plan i with
        | .error f => .error f
        | .ok q =>
          s.readyPlan o { q with entries := q.entries.modify i fun e => s.withRemainder e.closeIfEmpty } fuel
      else .ok plan
    | none => .ok plan

/-- Serve the next entry of a plan that is ready, or complete the round (R78). -/
def State.serveReady (s : State) : State :=
  match s.station.plan.bind PlanContext.nextEntry with
  | none => s.completeRound
  | some i => s.serveEntry i

/-- Serve the next entry, or complete the round (R78); the next entry waits while starts are withheld (R77), and a plan
that its recomputation makes too large is a PLAN fault (R67, R70). -/
def State.serveNext (s : State) : State :=
  let s := s.modPlan fun p => { p with entries := p.entries.map Entry.closeIfEmpty }
  match s.order? s.served, s.station.plan with
  | some o, some p =>
    if p.nextEntry.isNone then s.completeRound
    else if !s.startsAllowed then s.holdAt .next
    else
      match s.readyPlan o p (p.entries.length + 1) with
      | .error f => s.planFault f
      | .ok q => (s.modStation fun st => { st with plan := some q }).serveReady
  | _, _ => s.completeRound

/-! ## Top-ups (R36, R37, R85) -/

/-- The canister still holds the entry's code. -/
def Canister.holdsCode (c : Canister) (code : Nat) : Bool := c.configured && c.code == code

/-- The TOPUP_MANUAL entry that makes up a reduced top-up (R37). -/
def State.additionEntry (s : State) (e : Entry) (rho rest : Nat) : Entry :=
  { round := e.round, line := e.line, code := e.code, pos := none, mark := 0, d := 0, rho := 0, steps := 0,
    strokes := 0, volume := volumeOf rest rho, mass := some rest, tol := tolerance s.settings rest,
    flags := { manual := true, topupManual := true }, state := .pending }

/-- The plan already holds a TOPUP_MANUAL entry for the line (R37). -/
def State.hasAddition (s : State) (line : Nat) : Bool :=
  match s.station.plan with
  | some p => p.entries.any fun e => e.flags.topupManual && e.line == line
  | none => false

/-- The SHOT_DONE notice of the phase just judged (R83). -/
def State.shotDone (s : State) (v : Verdict) (judged : Option Nat) : State :=
  match s.station.cur with
  | none => s
  | some c =>
    s.notify (.shotDone s.served c.index c.phase v c.strokes.sum c.delivered judged c.target)

/-- The top-up of an entry on the canister as it stands; none where the position no longer holds the code
(R36, R37, R70). -/
def Canister.topUp (c : Canister) (code deficit : Nat) : TopUp :=
  if c.holdsCode code then topUpOf c deficit else { steps := 0, rest := deficit, reduced := true }

/-- The target of a phase whose top-up is commanded, with the mass by which it stands lowered (R37, R85): an addition
lowers it by its mass, and a reduced top-up for which none is appended is judged against the whole target, an earlier
lowering undone (log 43). -/
def CurrentEntry.topUpTarget (c : CurrentEntry) (t : Target) (up : TopUp) (adds : Bool) : Target × Nat :=
  if adds then ({ t with mass := t.mass - up.rest }, c.lowered + up.rest)
  else if up.reduced then ({ t with mass := t.mass + c.lowered }, 0)
  else (t, c.lowered)

/-- Command the top-up of the current entry (R85). -/
def State.commandTopUp (s : State) : State :=
  match s.current? with
  | none => s
  | some (c, e) =>
    match e.pos, c.target with
    | some p, some t =>
      let can := s.canisters[p]
      let up := can.topUp e.code (t.mass - c.judged)
      let adds := up.reduced && decide (0 < up.rest) && !s.hasAddition e.line
      let (target, lowered) := c.topUpTarget t up adds
      let s := s.modEntry c.index fun e => { e with
        topup := e.topup + up.steps, state := .active, additionGiven := e.additionGiven || adds }
      let s := if adds then
          s.modPlan fun p => { p with entries := p.entries ++
            [s.additionEntry e (if can.holdsCode e.code then can.rho else e.rho) up.rest] }
        else s
      let s := s.modStation fun st => { st with resume := none }
      let s := s.modCur fun c => { c with
        phase := .topup, target := some target, strokes := strokesOf up.steps can.c, ended := 0, counted := 0,
        delivered := 0, countPresent := true, topupUsed := true, lowered := lowered }
      if up.steps = 0 then
        if adds then ((s.setEntry c.index .done).shotDone .pass (some c.judged)).serveNext
        else (s.setEntry c.index .failed).fault .under (some c.index) (.mass c.judged (some target))
      else s.beginPhase
    | _, _ => s

/-! ## Verdicts (R83, R84, R102 to R105) -/

/-- The increment of a phase: defined when both readings are present, and not below 0 (R102). -/
def increment (start stop : Option Nat) : Option Nat :=
  match start, stop with
  | some a, some b => some (b - a)
  | _, _ => none

/-- A cumulative mass against a target: PASS within the tolerance, both ends included (R104). -/
def judgeMass (t : Target) (w : Nat) : Verdict :=
  if w < t.mass - t.tol then .under else if t.mass + t.tol < w then .over else .pass

/-- A phase with or without a target against its mass (R89, R104). -/
def judgeTarget (t : Option Target) (w : Nat) : Verdict :=
  match t with
  | some t => judgeMass t w
  | none => .pass

/-- The count of the phase is present and below the steps commanded (R103). -/
def CurrentEntry.countShort (c : CurrentEntry) : Bool :=
  c.countPresent && decide (c.counted < c.strokes.sum)

/-- The verdict on an automatic phase (R103 to R105). -/
def verdictOf (c : CurrentEntry) (weigh : Bool) (inc : Option Nat) : Verdict :=
  if c.countShort then .stall
  else
    match inc with
    | some d => judgeTarget c.target (c.judged + d)
    | none => if c.countPresent then (if weigh then .unweighed else .pass) else .sensor

/-- The order flags a verdict sets: UNCOUNTED on a mass without a count, UNWEIGHED on a count alone
(R103, R105). -/
def OrderFlags.judged (f : OrderFlags) (c : CurrentEntry) (weigh : Bool) (inc : Option Nat) : OrderFlags :=
  if c.countShort then f
  else
    match inc with
    | some _ => { f with uncounted := f.uncounted || !c.countPresent }
    | none => { f with unweighed := f.unweighed || (c.countPresent && !weigh) }

/-- The state a verdict gives its entry (R84, R94); a first UNDER is topped up before this is read. -/
def Verdict.entryState : Verdict → EntryState
  | .pass => .done
  | .stall => .partialShot
  | .under | .over | .sensor | .unweighed => .failed

/-- The fault a verdict raises (R84). -/
def Verdict.faultKind : Verdict → FaultKind
  | .pass | .under => .under
  | .over => .over
  | .stall => .stall
  | .sensor => .sensor
  | .unweighed => .unweighed

/-- What STATION_FAULT carries of a verdict: the judged mass and the target for UNDER and OVER (R86). -/
def Verdict.detail (v : Verdict) (judged : Nat) (t : Option Target) : FaultDetail :=
  match v with
  | .under | .over => .mass judged t
  | .pass | .stall | .sensor | .unweighed => .none

/-- The reading that ends a phase, kept; an absent one makes a fresh reading needed (R83). -/
def State.endReading (s : State) (r : Option Nat) : State :=
  match r with
  | some v => s.modTin fun t => { t with last := some v }
  | none => s.modStation fun st => { st with freshNeeded := true }

/-- The mass of an increment added to the judged and the measured mass (R83, R102). -/
def State.addMass (s : State) (i : Nat) (inc : Option Nat) : State :=
  match inc with
  | none => s
  | some d =>
    (s.modCur fun c => { c with judged := c.judged + d }).modEntry i fun e =>
      { e with measured := some (e.measured.getD 0 + d) }

/-- The verdict on an automatic phase and what the station does on it (R83, R84, R94). -/
def State.judge (s : State) (r : Option Nat) : State :=
  match s.current? with
  | none => s
  | some (c, e) =>
    let inc := increment c.start r
    let v := verdictOf c e.flags.weigh inc
    let judged := c.judged + inc.getD 0
    let s := s.endReading r
    let s := s.setFlag s.served fun f => f.judged c e.flags.weigh inc
    let s := s.addMass c.index inc
    let s := s.shotDone v (inc.map fun _ => judged)
    if (s.pendingEndOf s.served).isSome then (s.setEntry c.index v.entryState).enterClearing
    else
      match v, c.topupUsed with
      | .pass, _ => (s.setEntry c.index .done).serveNext
      | .under, false => s.commandTopUp
      | v, _ => (s.setEntry c.index v.entryState).fault v.faultKind (some c.index) (v.detail judged c.target)

/-- The mass of a manual addition: over the whole step by the scale, else with the host's mass, which stands until it
is judged (R89, R108, log 60). -/
def CurrentEntry.manualMass (c : CurrentEntry) (r : Option Nat) : Option Nat :=
  match increment c.start r, c.hostMass with
  | some d, _ => some (c.carried + d)
  | none, some h => some (c.judged + h)
  | none, none => none

/-- The verdict on a manual addition and what the station does on it (R89, R108). -/
def State.judgeManual (s : State) (r : Option Nat) : State :=
  match s.current? with
  | none => s
  | some (c, _) =>
    let mass := c.manualMass r
    let judged := mass.getD c.judged
    let s := s.endReading r
    let s := (s.modCur fun c => { c with judged := judged, hostMass := none }).modEntry c.index fun e =>
      { e with measured := if mass.isSome then mass else e.measured }
    if mass.isNone ∧ c.target.isSome then (s.setEntry c.index .failed).fault .sensor (some c.index) .none
    else
      let v := judgeTarget c.target judged
      let s := s.shotDone v mass
      match v with
      | .under => s.issueManual true
      | .over => (s.setEntry c.index .failed).fault .over (some c.index) (.mass judged c.target)
      | .pass | .stall | .sensor | .unweighed =>
        ((s.setEntry c.index .done).setFlag s.served fun f => { f with manualUsed := true }).serveNext

/-- The reading that ends a phase, or its absence, is judged (R83, R89). -/
def State.verdictReading (s : State) (r : Option Nat) : State :=
  match s.station.cur with
  | none => s
  | some c => if c.phase = .manual then s.judgeManual r else s.judge r

/-- A settle for the verdict of a phase (R83). -/
def State.settleVerdict (s : State) : State := s.settle .verdict .settling fun s => s.verdictReading none

/-! ## The active plan (R65, R67, R69, R73, R76) -/

/-- The active plan of the order served, ordered from the position the carousel shows: remade after REMAKE, taken up
from the partial plan, or new (R65, R69, R72). -/
def State.activePlan (s : State) (o : Order) : Except PlanFailure PlanContext :=
  match s.station.plan, o.partialPlan with
  | some p, _ => s.remakePlan o p s.shownPosition
  | none, some p => s.takeUp o p s.shownPosition
  | none, none => s.newPlan o s.shownPosition

/-- PLANNING: the plan stands and is served, or the build fails (R65, R67, R76). The position a carousel in motion shows
is a free value, drawn here (log 10). -/
def State.planTin (s : State) : State :=
  match s.order? s.served with
  | none => s
  | some o =>
    let built := s.activePlan o
    let s := s.drawnInMotion
    match built with
    | .error f => s.planFault f
    | .ok p =>
      let s := s.modStation fun st => { st with plan := some p }
      let s := s.modOrder s.served fun o => { o with
        partialPlan := none, flags := { o.flags with clamped := o.flags.clamped || p.anyClamped } }
      s.serveNext

/-- The tare, or its absence (R76). -/
def State.tareReading (s : State) (r : Option Nat) : State :=
  let s := s.modTin fun t => { t with tare := r, last := r }
  let s := s.modStation fun st => { st with freshNeeded := r.isNone }
  ((s.changeOrder s.served .dispensing).goto .planning).planTin

/-- A settle for the tare (R76). -/
def State.settleTare (s : State) : State := s.settle .tare .taring fun s => s.tareReading none

/-- The reading of the settle in progress, or its absence, handed to the station (R99, R100). -/
def State.handReading (s : State) (r : Option Nat) : State :=
  match s.station.settleFor with
  | .tare => s.tareReading r
  | .phaseStart => s.phaseReading r
  | .verdict => s.verdictReading r

/-- A settle ends without a reading (R100). -/
def State.settleAbsent (s : State) : State := s.abandonSettle.handReading none

/-! ## Homing and resumption (R54, R87, R92) -/

/-- The plan with one entry recomputed when its mark is stale (R70). -/
def State.refreshEntry (s : State) (o : Order) (plan : PlanContext) (i : Nat) :
    Except PlanFailure PlanContext :=
  if (plan.entries[i]?).any s.staleMark then s.recomputeEntry o plan i else .ok plan

/-- The current reading no longer serves: the next phase takes one of its own (R78). -/
def State.needReading (s : State) : State := s.modStation fun st => { st with freshNeeded := true }

/-- The entry is PARTIAL. -/
def State.isPartial (s : State) (i : Nat) : Bool := (s.entry? i).any fun e => e.state == .partialShot

/-- The entry is still PARTIAL, with steps left when it is to be served (R107). -/
def State.goesOn (s : State) (i : Nat) (served : Bool) : Bool :=
  (s.entry? i).any fun e => e.state == .partialShot && !(served && e.remaining == 0)

/-- A PARTIAL entry, recomputed where its mark is stale, goes on (R70, R87). An entry that the recomputation closes, and
one to be served with nothing left, gives way to the next entry (logs 15 and 42). Any other entry goes on as it
stands. -/
def State.rework (s : State) (i : Nat) (served : Bool) (go : State → State) : State :=
  match s.order? s.served, s.station.plan with
  | some o, some p =>
    if s.isPartial i then
      match s.refreshEntry o p i with
      | .error f => s.planFault f
      | .ok q =>
        let s := s.modStation fun st => { st with plan := some q }
        if s.goesOn i served then go s else s.needReading.serveNext
    else go s
  | _, _ => s

/-- A PARTIAL entry served again, with its remainder and a fresh reading; any other from its move (R87, R107,
log 45). -/
def State.serveAgain (s : State) (i : Nat) : State :=
  s.rework i true fun s =>
    (if s.isPartial i then (s.modEntry i s.withRemainder).needReading else s).serveEntry i

/-- The homing the station waits for has ended: the entry is served again, or its serving waits while starts are
withheld, with the homing asked for again when they are allowed (R77, R87, log 58). -/
def State.stationHomed (s : State) (ok : Bool) : State :=
  if s.station.awaitHoming then
    let s := s.modStation fun st => { st with awaitHoming := false }
    match s.curIndex with
    | none => s
    | some i =>
      if ok then (if s.startsAllowed then s.serveAgain i else s.holdAt .homing)
      else s.fault .lost (some i) .none
  else s

/-- Every requester of a homing is told its result: the line mode unit, then the station (R54, R145). -/
def State.homingEnds (s : State) (ok : Bool) : State :=
  (if s.line.pendingMode = some .run then s.setMode .running none else s).stationHomed ok

/-- The homing ends with the mark found: position 0, HOMED (R54). -/
def State.homed (s : State) : State :=
  ({ s with positioner := { s.positioner with
      state := .homed, position := 0, move := none, markSeen := false } } : State).homingEnds true

/-- A homing request (R54). -/
def State.askHoming (s : State) : State :=
  match s.positioner.state with
  | .homed => s.homingEnds true
  | .homing => s
  | .moving => s.homingEnds false
  | .unhomed | .lost | .failed =>
    if s.positioner.onMark then s.homed
    else { s with positioner := { s.positioner with state := .homing, markSeen := false } }

/-- Begin the operation of a resume point (R77, R87, R92). A manual step repeated while its judged mass is 0 names the
whole entry, with the entry's own volume (log 53). -/
def State.resumeAt (s : State) (r : ResumePoint) : State :=
  let s := s.modStation fun st => { st with resume := none }
  match r with
  | .next => s.serveNext
  | .tare => s.settleTare
  | .startReading => s.settlePhase
  | .strokeCheck => s.recheck
  | .verdict => s.settleVerdict
  | .manualStep =>
    s.issueManual (match s.station.cur with
      | some c => decide (0 < c.judged)
      | none => false)
  | .homing => (s.modStation fun st => { st with state := .moving, awaitHoming := true }).askHoming
  | .topup => s.commandTopUp
  | .serve =>
    match s.curIndex with
    | some i => s.serveEntry i
    | none => s

/-- Begin an operation, or wait for starts with it as the resume point (R77). -/
def State.beginOrHold (s : State) (r : ResumePoint) : State :=
  if s.startsAllowed then s.resumeAt r else s.holdAt r

/-- The remainder of the current entry taken up: after RETRY_SHOT on STALL or UNSEATED, and after a stroke cut
off by an e-stop (R87, R92). -/
def State.retryPartial (s : State) : State :=
  match s.curIndex with
  | none => s
  | some i =>
    s.rework i true fun s =>
      (((s.modEntry i fun e => { s.withRemainder e with state := .active }).needReading).modCur fun c =>
        { c with phase := .remainder }).beginOrHold .serve

/-- The phase cut off in its settle is judged again from its kept start reading, its entry recomputed first where its
mark is stale (R70, R92, log 42). -/
def State.retryVerdict (s : State) : State :=
  match s.curIndex with
  | none => s
  | some i => s.rework i false fun s => s.beginOrHold .verdict

/-- A report of the canister table that a position's answer has changed reaches a stroke waiting on it
(R80). -/
def State.reportPosition (s : State) (p : Position) : State :=
  if s.station.state = .waitCanister ∧ (s.current?.bind fun x => x.2.pos) = some p then s.recheck else s

/-- The position's finding for the stroke that waits. -/
def State.waitingFinding (s : State) (p : Position) : Option Finding :=
  match s.current? with
  | some (c, e) => some (s.canisters[p].finding e.code (c.strokes.getD c.ended 0))
  | none => none

end Sys2Proof.Machine
end

