-- ==== Sys2Proof/Machine/Tins.lean ====
section
/-! DEFINITION. Tins on the line: binding at the intake (R11 to R13), the taking of arrivals, the ends of
transfers, and the clearing of bays, lidder and lanes (chapters 7 and 8). -/

namespace Sys2Proof.Machine

/-! ## Intake (R11 to R13) -/

/-- The QUEUED order of a class and rush flag with the smallest admission sequence (R12). -/
def Book.firstQueued (b : Book) (cls : TinClass) (rush : Bool) : Option Order :=
  (b.orders.filter fun o => o.state == .queued && o.cls == cls && o.rush == rush).foldl
    (fun best o => match best with
      | none => some o
      | some a => if o.admission < a.admission then some o else some a) none

/-- The order in the return slot, when it is of the class and has no tracked tin (R12). -/
def State.slotOrder (s : State) (cls : TinClass) : Option Order :=
  match s.book.slot.bind s.order? with
  | some o => if o.cls = cls ∧ o.tin = none then some o else none
  | none => none

/-- The order binding takes for a class, and whether it comes from the return slot (R12). -/
def State.bindable (s : State) (cls : TinClass) : Option (Order × Bool) :=
  match s.slotOrder cls with
  | some o => some (o, true)
  | none =>
    match s.book.firstQueued cls true with
    | some o => some (o, false)
    | none => (s.book.firstQueued cls false).map fun o => (o, false)

/-- Change the intake. -/
def State.modIntake (s : State) (f : Intake → Intake) : State := { s with intake := f s.intake }

/-- The intake's outstanding transfer request set or withdrawn (R113). -/
def State.setIntakeRequest (s : State) (r : Bool) : State :=
  { s with conveyor := { s.conveyor with intakeRequest := r } }

/-- The return slot set. -/
def State.setSlot (s : State) (n : Option Nat) : State := { s with book := { s.book with slot := n } }

/-- Bind an order to the tin at the intake (R12). -/
def State.bindOrder (s : State) (n : Nat) (fromSlot : Bool) : State :=
  let s := s.assignTin n
  let s := s.modOrder n fun o => { o with fromSlot := fromSlot }
  let s := if fromSlot then s.setSlot none else s
  ((s.changeOrder n .bound).modIntake fun i => { i with state := .bound, bound := some n }).setIntakeRequest
    true

/-- Attempt binding: bind the first matching order, or refuse the tin (R12). -/
def State.attemptBinding (s : State) : State :=
  match s.bindable s.intake.cls with
  | some (o, fromSlot) => s.bindOrder o.number fromSlot
  | none =>
    (s.modIntake fun i => { i with state := .refused, reason := .noOrderForTin, bound := none }).notify
      (.noOrderForTin .intake s.intake.cls)

/-- Retry binding for a tin refused for want of an order; finding none changes nothing (R13). -/
def State.retryBinding (s : State) : State :=
  if s.intake.state = .refused ∧ s.intake.reason = .noOrderForTin ∧ s.startsAllowed then
    match s.bindable s.intake.cls with
    | some (o, fromSlot) => s.bindOrder o.number fromSlot
    | none => s
  else s

/-- An unlidded tin newly placed: bound when the gate is open, else WAITING (R11). -/
def State.takeTin (s : State) : State :=
  if s.startsAllowed then s.attemptBinding
  else s.modIntake fun i => { i with state := .waiting, bound := none }

/-- An order bound at the intake whose tin was lifted: back to the return slot, to QUEUED, or INTERRUPTED when
the slot was filled again (R13). -/
def State.returnBound (s : State) (n : Nat) : State :=
  match s.order? n with
  | none => s
  | some o =>
    let s := s.modOrder n fun o => { o with tin := none }
    if o.fromSlot then
      if s.book.slot = none then (s.setSlot (some n)).changeOrder n .returning
      else s.changeOrder n .interrupted
    else s.changeOrder n .queued

/-- The lift of the tin at the intake (R13). -/
def State.liftIntake (s : State) : State :=
  let s := match s.intake.state, s.intake.bound with
    | .bound, some n => (s.returnBound n).setIntakeRequest false
    | _, _ => s
  s.modIntake fun i => { i with state := .empty, bound := none }

/-! ## Arrivals (R75, R115, R121, R132, R133, R140) -/

/-- The dispense station takes an arrival by the first case that holds (R75). -/
def State.stationArrival (s : State) : State :=
  match s.order? s.served with
  | none => s
  | some o =>
    if o.pendingEnd.isSome then s.enterClearing
    else if !s.station.present then s.modStation fun st => { st with arrivalWaits := true }
    else
      let s := s.modStation fun st => { st with
        arrivalWaits := false
        tin := some { id := o.tin.getD 0, cls := o.cls, tare := none, last := none, entryStart := none,
                      lid := st.lid } }
      if s.station.lid then s.fault .lidded none .none
      else if !o.route.dispense then
        ((s.modStation fun st => { st with gentle := o.route.mix && s.readGentle o }).changeOrder
          s.served .dispensed).offerTin
      else s.settleTare

/-- A bay takes an arrival (R121). -/
def State.bayArrival (s : State) (b : BayId) (t : Transfer) : State :=
  let profile := match s.order? t.order with
    | some o => o.profile
    | none => .standard
  (s.modBay b fun y => { y with
    state := .loading, reservation := none, tin := some { order := t.order, tin := t.tin },
    orderProfile := profile, gentle := t.gentle, mixDone := false }).changeOrder t.order .mixing

/-- A tin is lidded unless its order asks to check it first or its lid is done with (R133). -/
def Order.toBeLidded (o : Order) : Bool := o.route.lid && (o.lidOnly || !o.holdOpen)

/-- LID leaves the route and the lid-only mark is cleared (R7, R133, R136, R137). -/
def State.lidDone (s : State) (n : Nat) : State :=
  s.modOrder n fun o => { o with route := { o.route with lid := false }, lidOnly := false }

/-- The lidder waits to discharge its tin (R139). -/
def State.dischargeWait (s : State) : State :=
  let s := s.modLidder fun l => { l with state := .dischargeWait, resume := none }
  { s with conveyor := { s.conveyor with outletRequest := true } }

/-- The lidder takes an arrival and decides the tin's passage (R132, R133). -/
def State.lidderArrival (s : State) (t : Transfer) : State :=
  match s.order? t.order with
  | none => s
  | some o =>
    let s := s.modLidder fun l => { l with
      state := .receiving, tin := some { order := t.order, tin := t.tin, cls := o.cls }, reserved := none,
      arrived := true, lidOn := false, repressUsed := false }
    let s := s.changeOrder t.order .lidding
    if o.toBeLidded then s.modLidder fun l => { l with resume := some .place }
    else (s.lidDone t.order).dischargeWait

/-- A lane takes an arrival: COLLECT when the order is lidded, CHECK otherwise (R140). -/
def State.laneArrival (s : State) (lane : Lane) (t : Transfer) : State :=
  let lidded := match s.order? t.order with
    | some o => o.flags.lidded
    | none => false
  let s := s.modLane lane fun l => { l with
    state := if lidded then .collect else .check, tin := some { order := t.order, tin := t.tin } }
  (s.changeOrder t.order (if lidded then .outlet else .check)).notify (.tinReady t.order t.tin lane lidded)

/-- The tin handed to its destination (R115, R117). -/
def State.handTin (s : State) (d : Dest) (t : Transfer) : State :=
  match d with
  | .dispense => s.stationArrival
  | .bay b => s.bayArrival b t
  | .lidder => s.lidderArrival t
  | .outlet =>
    match t.lane with
    | some lane => s.laneArrival lane t
    | none => s

/-! ## The ends of transfers (R115 to R118) -/

/-- A source still waiting for the end of a transfer is told: the station or the lidder goes from SENDING to
IDLE (R115, R116, R139). -/
def State.tellSource (s : State) (t : Transfer) : State :=
  if t.sourceWaits then
    match t.source with
    | .dispense =>
      if s.station.state = .sending then
        s.modStation fun st =>
          { st with state := .idle, order := none, tin := none, cur := none, gentle := false }
      else s
    | .lidder => if s.lidder.state = .sending then s.modLidder fun l => { l with state := .idle } else s
    | .intake | .bay _ => s
  else s

/-- The transfer ends as an arrival (R115, R117, R118). -/
def State.endArrival (s : State) (d : Dest) (t : Transfer) : State :=
  ((s.setRecord d none).handTin d t).tellSource t

/-- The destination's presence sensor as last shown. -/
def State.presentAt (s : State) (d : Dest) (lane : Option Lane) : Bool :=
  match d with
  | .dispense => s.station.present
  | .bay b => (s.bay b).present
  | .lidder => s.lidder.present
  | .outlet =>
    match lane with
    | some l => s.lanes[l].present
    | none => false

/-- The presence input of a destination set. -/
def State.setPresent (s : State) (d : Dest) (lane : Option Lane) (p : Bool) : State :=
  match d with
  | .dispense => s.modStation fun st => { st with present := p }
  | .bay b => s.modBay b fun y => { y with present := p }
  | .lidder => s.modLidder fun l => { l with present := p }
  | .outlet =>
    match lane with
    | some l => s.modLane l fun r => { r with present := p }
    | none => s

/-- What a rise of a destination's presence sensor does to the transfer in flight to it: the arrival of one
RUNNING, arrived yes for one JAMMED or HALTED (R115, R116, R118). -/
def State.riseOnRecord (s : State) (d : Dest) (t : Transfer) : State :=
  match t.state with
  | .running => s.endArrival d t
  | .jammed | .halted => s.setRecord d (some { t with arrived := true })

/-- The timer of a RUNNING transfer expires (R116). -/
def State.jam (s : State) (d : Dest) (t : Transfer) : State :=
  ((s.setRecord d (some { t with state := .jammed, retried := false, sourceWaits := false })).faultAtDest
    t.order d .jam true).tellSource t

/-! ## Clearing of bays, lidder and lanes (R117, R129, R141, R142) -/

/-- A moment for the empty-since time of a bay (log 2). -/
def State.tick (s : State) : State := { s with moment := s.moment + 1 }

/-- The bay enters EMPTY, its brake off, and records a moment of its own, after every earlier one (R120, R125, R129,
log 2). -/
def State.emptyBay (s : State) (b : BayId) : State :=
  (s.modBay b fun y => { y with
    state := .empty, tin := none, reservation := none, inForce := none, gentle := false, mixDone := false,
    cause := none, emptySince := s.moment + 1, brake := false }).tick

/-- The lift at a bay in CLEARING (R129). -/
def State.liftBay (s : State) (b : BayId) : State :=
  (match (s.bay b).tin with
   | some t => s.reportLift t.order
   | none => s).emptyBay b

/-- The bay goes to CLEARING; with no tin on it the lift is taken at once (R129). -/
def State.clearBay (s : State) (b : BayId) : State :=
  let s := s.modBay b fun y => { y with
    state := .clearing, reservation := none, cause := none, clamp := .opened, brake := y.brakeHeld }
  let s := s.modLidder fun l => { l with requesters := l.requesters.filter (· != .bay b) }
  if (s.bay b).present then s else s.liftBay b

/-- The lift at the lidder in CLEARING (R142). -/
def State.liftLidder (s : State) : State :=
  (match s.lidder.tin with
   | some t => s.reportLift t.order
   | none => s).modLidder fun l => { l with
    state := .idle, tin := none, reserved := none, arrived := false, lidOn := false, repressUsed := false,
    resume := none, loaded := false }

/-- The lidder goes to CLEARING; with no tin on it the lift is taken at once (R142). -/
def State.clearLidder (s : State) : State :=
  let s := s.modLidder fun l => { l with state := .clearing, resume := none, reserved := none }
  let s := { s with conveyor := { s.conveyor with outletRequest := false } }
  if s.lidder.present then s else s.liftLidder

/-- The lift at a lane in CLEARING (R141). -/
def State.liftLane (s : State) (lane : Lane) : State :=
  (match s.lanes[lane].tin with
   | some t => s.reportLift t.order
   | none => s).modLane lane fun l => { l with state := .empty, tin := none }

/-- SCRAP of a JAM or ESTOP raised on a transfer: the record is discarded, a source still in SENDING is told and goes to
IDLE (log 51), and the destination clears, a bay with no tin on it staying EMPTY (R117, R118, R121, R139, R142). -/
def State.scrapTransfer (s : State) (d : Dest) (t : Transfer) : State :=
  let s := (s.setRecord d none).tellSource t
  match d with
  | .dispense => s.enterClearing
  | .bay b =>
    if (s.bay b).present then
      (s.modBay b fun y => { y with tin := some { order := t.order, tin := t.tin } }).clearBay b
    else (s.modBay b fun y => { y with reservation := none }).reportLift t.order
  | .lidder =>
    let cls := match s.order? t.order with
      | some o => o.cls
      | none => .A
    (s.modLidder fun l => { l with tin := some { order := t.order, tin := t.tin, cls := cls } }).clearLidder
  | .outlet =>
    match t.lane with
    | none => s
    | some lane =>
      let s := s.modLane lane fun l => { l with
        state := .clearing, tin := some { order := t.order, tin := t.tin } }
      if s.lanes[lane].present then s else s.liftLane lane

/-! ## Bays (R120, R122, R123, R125, R126) -/

/-- A bay is free: EMPTY, nothing sensed, no reservation (R121), and no record to it (R114). -/
def State.bayFree (s : State) (b : BayId) : Bool :=
  (s.bay b).state == .empty && !(s.bay b).present && (s.bay b).reservation.isNone
    && (s.record (.bay b)).isNone

/-- A bay may take the class (R120). -/
def bayAllowed (b : BayId) (cls : TinClass) : Bool :=
  match b, cls with
  | .one, _ => true
  | .two, .A | .two, .B | .two, .C => true
  | .two, .D | .two, .E => false

/-- The bay chosen for a class: the eligible one that has been EMPTY the longer, bay 1 when equal (R120). -/
def State.chooseBay (s : State) (cls : TinClass) : Option BayId :=
  match bayAllowed .one cls && s.bayFree .one, bayAllowed .two cls && s.bayFree .two with
  | true, true => if s.bayOne.emptySince ≤ s.bayTwo.emptySince then some .one else some .two
  | true, false => some .one
  | false, true => some .two
  | false, false => none

/-- The order of the tin on a bay; 0 when there is none. -/
def Bay.tinOrder (y : Bay) : Nat :=
  match y.tin with
  | some t => t.order
  | none => 0

/-- A bay raises CLAMP or IMBALANCE (R126). -/
def State.bayFault (s : State) (b : BayId) (k : FaultKind) : State :=
  let s := s.modBay b fun y => { y with clamp := .opened, brake := false }
  (s.faultAtDest (s.bay b).tinOrder (.bay b) k false).modBay b fun y =>
    { y with state := .fault, cause := none }

/-- The duration the settings give a profile (R123). -/
def Settings.duration (st : Settings) : MixProfile → Nat
  | .standard => st.standard
  | .long => st.long
  | .gentle => st.gentle
  | .short => st.short

/-- The profile in force from the order's profile, the GENTLE record and the settings (R123). -/
def Settings.spin (st : Settings) (p : MixProfile) (gentle : Bool) : ProfileInForce :=
  if gentle then { profile := .gentle, seconds := max (st.duration p) st.gentle }
  else { profile := p, seconds := st.duration p }

/-- The bay begins a spin, only with the clamp closed on a present tin (R123). -/
def State.beginSpin (s : State) (b : BayId) : State :=
  let y := s.bay b
  if y.clampClosed && y.present then
    s.modBay b fun y => { y with
      state := .spinning, clamp := .closed, brake := false,
      inForce := some (s.settings.spin y.orderProfile y.gentle) }
  else s.bayFault b .clamp

/-- The bay is READY: MIX leaves the route and the bay joins the lidder's requesters (R125, R131). -/
def State.bayReady (s : State) (b : BayId) : State :=
  let n := (s.bay b).tinOrder
  ((s.modBay b fun y => { y with state := .ready, cause := none, clamp := .opened }).setRoute n
    fun r => { r with mix := false }).modLidder fun l => { l with requesters := l.requesters ++ [.bay b] }

/-- The bay opens its clamp; a clamp already open makes it READY at once (R125). -/
def State.unclamp (s : State) (b : BayId) : State :=
  let s := s.modBay b fun y => { y with state := .unclamping, cause := none, clamp := .opened, brake := false }
  if (s.bay b).clampClosed then s else s.bayReady b

/-- The bay begins its operation (R122): a mixed tin is unclamped, another is clamped. -/
def State.beginBay (s : State) (b : BayId) : State :=
  if (s.bay b).mixDone then s.unclamp b
  else if !(s.bay b).present then s.bayFault b .clamp
  else
    let s := s.modBay b fun y => { y with state := .clamping, clamp := .closed, brake := false }
    if (s.bay b).clampClosed then s.beginSpin b else s

/-- The bay brakes (R123 to R125). -/
def State.brakeBay (s : State) (b : BayId) (why : BrakeCause) : State :=
  s.modBay b fun y => { y with state := .braking, cause := some why, brake := true }

/-! ## Lidder (R134, R136, R137) -/

/-- The order of the tin on the lidder; 0 when there is none. -/
def Lidder.tinOrder (l : Lidder) : Nat :=
  match l.tin with
  | some t => t.order
  | none => 0

/-- The lidder raises SEAT (R137). -/
def State.seatFault (s : State) : State :=
  (s.faultAtDest s.lidder.tinOrder .lidder .seat false).modLidder fun l =>
    { l with state := .fault, resume := none, loaded := false }

/-- A magazine's count. -/
def Magazines.count (m : Magazines) : TinClass → Nat
  | .A => m.a
  | .B => m.b
  | .C => m.c
  | .D => m.d
  | .E => m.e

/-- A magazine's count set. -/
def Magazines.set (m : Magazines) (cls : TinClass) (n : Nat) : Magazines :=
  match cls with
  | .A => { m with a := n }
  | .B => { m with b := n }
  | .C => { m with c := n }
  | .D => { m with d := n }
  | .E => { m with e := n }

/-- A placing begins (R134): presence first, then the magazine. -/
def State.beginPlacing (s : State) (magazineEmpty : Bool) : State :=
  match s.lidder.tin with
  | none => s
  | some t =>
    let count := s.lidder.magazines.count t.cls
    if !s.lidder.present then
      (s.modLidder fun l => { l with lidOn := false }).seatFault
    else if magazineEmpty || count == 0 then
      let s' := s.modLidder fun l => { l with
        state := .waitLids, resume := none, loaded := false, magazines := l.magazines.set t.cls 0 }
      if s.lidder.state = .waitLids then s' else s'.notify (.lidsOut t.order t.cls 0)
    else
      s.modLidder fun l => { l with
        state := .placing, resume := none, loaded := false, magazines := l.magazines.set t.cls (count - 1) }

/-- The press is commanded (R136, R137). -/
def State.press (s : State) (again : Bool) : State :=
  s.modLidder fun l => { l with state := .pressing, resume := none, repressUsed := again }

/-- The lidder stops where an e-stop or a supply warning finds it (R138). -/
def LidderState.haltPoint : LidderState → Option LidResume
  | .placing => some .place
  | .pressing | .checking => some .press
  | _ => none

/-! ## Lanes (R139) -/

/-- A lane is free (R139). -/
def LaneRecord.free (l : LaneRecord) : Bool := l.state == .empty && !l.present

/-- The lowest-numbered free lane (R139). -/
def State.freeLane (s : State) : Option Lane := (List.finRange 6).find? fun i => s.lanes[i].free

end Sys2Proof.Machine
end

