-- ==== Sys2Proof/Machine/LinkCommands.lean ====
section
/-! DEFINITION. The link controller (chapter 10): how a request is taken and answered, and the commands of
the link itself. -/

namespace Sys2Proof.Machine

/-! ## Requests and replies (R160, R161) -/

/-- What an owner makes of a request: the state after its effect, the status and what the reply carries. -/
structure Answer where
  state : State
  status : Status
  body : ReplyBody

/-- A request refused: nothing changes (section 10.6). -/
def State.refuse (s : State) (st : Status) : Answer := { state := s, status := st, body := .none }

/-- A request answered OK with nothing further. -/
def State.accept (s : State) : Answer := { state := s, status := .ok, body := .none }

/-- The oldest request not yet taken is this one; when none waits, it arrives now if the queue has room
(R160, log 4). -/
def State.offer (s : State) (kind tag : Byte) (payload : List Byte) : Option State :=
  match s.link.queue.find? fun e => e.reply.isNone with
  | some e => if e.kind = kind ∧ e.tag = tag ∧ e.payload = payload then some s else none
  | none =>
    if s.link.queue.length < Config.inputQueueSize then
      some { s with link := { s.link with
        queue := s.link.queue ++ [{ kind := kind, tag := tag, payload := payload, reply := none }] } }
    else none

/-- The reply set on the oldest request not yet taken (R160). -/
def putReply (r : Reply) : List InputEntry → List InputEntry
  | [] => []
  | e :: rest => if e.reply.isNone then { e with reply := some r } :: rest else e :: putReply r rest

/-- The reply an answer composes; its flags are read after the effect (R161). -/
def Answer.reply (a : Answer) (kind tag : Byte) : Reply :=
  { kind := replyKind kind, tag := tag, status := a.status, flags := a.state.lineFlags, body := a.body }

/-- The state with the reply of an answer composed. -/
def Answer.settle (a : Answer) (kind tag : Byte) : State :=
  { a.state with link := { a.state.link with queue := putReply (a.reply kind tag) a.state.link.queue } }

/-- A request taken by its owner and answered, when it is the one to be taken (R160). -/
def State.request (s : State) (kind tag : Byte) (payload : List Byte) (owner : State → Answer) : State :=
  match s.offer kind tag payload with
  | some t => (owner t).settle kind tag
  | none => s

/-- A request row as a command. -/
def State.requestCommand (s : State) (kind tag : Byte) (payload : List Byte) (owner : State → Answer) :
    Host.Outcome State Fault Refusal :=
  s.command fun s => s.request kind tag payload owner

/-- A request without a payload: any payload is BAD_LENGTH (R144, R166). -/
def State.bare (s : State) (payload : List Byte) (owner : State → Answer) : Answer :=
  if payload.isEmpty then owner s else s.refuse .badLength

/-! ## IDENT, STATUS and unknown kinds (R160, R166) -/

/-- The part code, "WKV-2406" as text (R166). -/
def partCode : List Byte := [0x57, 0x4B, 0x56, 0x2D, 0x32, 0x34, 0x30, 0x36]

/-- The answer to IDENT (R166). -/
def State.answerIdent (payload : List Byte) (s : State) : Answer :=
  s.bare payload fun s =>
    { state := s, status := .ok,
      body := .ident partCode Config.hardwareRevision Config.firmwareRevision 24 2 6 }

/-- IDENT (R166). -/
def execIdent (tag : Byte) (payload : List Byte) (s : State) : Host.Outcome State Fault Refusal :=
  s.requestCommand 0x01 tag payload (State.answerIdent payload)

/-- The line as STATUS reports it (R166). -/
def State.statusReport (s : State) : StatusReport :=
  { mode := s.line.mode, pendingMode := s.line.pendingMode, latch := s.line.latch,
    chainOpen := s.line.chainOpen, notices := s.notices.length, attention := attentionCount s.notices,
    requests := s.link.queue.length, positioner := s.positioner.state,
    position := s.shownPosition
    intake := s.intake.state, station := s.station.state, bayOne := s.bayOne.state,
    bayTwo := s.bayTwo.state, lidder := s.lidder.state, lanes := s.lanes.toList.map LaneRecord.state,
    liveOrders := s.book.orders.length, returnSlot := s.book.slot.getD 0, lids := s.lidder.magazines,
    lastReading := s.weigh.last, scaleFault := s.weigh.fault, saving := s.supply.saving.isSome }

/-- The answer to STATUS (R166); the position of a carousel that moves is a free value (log 10). -/
def State.answerStatus (payload : List Byte) (s : State) : Answer :=
  s.bare payload fun s =>
    { state := s.drawnInMotion, status := .ok, body := .status s.statusReport }

/-- The supply-warned mark cleared (R161). -/
def State.clearWarnedMark (s : State) : State := { s with link := { s.link with warnedMark := false } }

/-- STATUS taken: its reply still carries the supply-warned mark, which is cleared after it (R161). A refused
STATUS changes nothing (R160). -/
def State.takeStatus (tag : Byte) (payload : List Byte) (s : State) : State :=
  match s.offer 0x02 tag payload with
  | some t =>
    let u := (t.answerStatus payload).settle 0x02 tag
    if payload.isEmpty then u.clearWarnedMark else u
  | none => s

/-- STATUS (R161, R166). -/
def execStatus (tag : Byte) (payload : List Byte) (s : State) : Host.Outcome State Fault Refusal :=
  s.command (State.takeStatus tag payload)

/-- A request of a kind the catalogue does not list (R160). -/
def execUnknownKindRequest (kind tag : Byte) (payload : List Byte) (s : State) :
    Host.Outcome State Fault Refusal :=
  s.command fun s =>
    if catalogue.contains kind then s else s.request kind tag payload fun s => s.refuse .unknownKind

/-! ## Reception (R157 to R160) -/

/-- A valid frame: appended to the input queue, or discarded when it holds 4 requests (R160). -/
def queueFrame (q : List InputEntry) (f : Frame) : List InputEntry :=
  if q.length < Config.inputQueueSize then
    q ++ [{ kind := f.kind, tag := f.tag, payload := f.payload, reply := none }]
  else q

/-- Bytes received: searched behind those of the frame so far, and each valid frame taken (R159, R160). -/
def State.receive (bytes : List Byte) (s : State) : State :=
  let all := s.link.rx ++ bytes
  let (frames, left) := scanBytes (all.length + 1) all
  { s with link := { s.link with rx := left, queue := frames.foldl queueFrame s.link.queue } }

/-- FRAME_RECEIVED (R159, R160). -/
def execFrameReceived (bytes : List Byte) (s : State) : Host.Outcome State Fault Refusal :=
  s.command (State.receive bytes)

/-- The bytes before a gap dropped, with the receiver back in HUNT (R159). -/
def State.dropGathered (s : State) : State := { s with link := { s.link with rx := [] } }

/-- FRAME_GAP_TIMEOUT: more than 20 ms after the last of the bytes (R159). -/
def execFrameGapTimeout (bytes : List Byte) (s : State) : Host.Outcome State Fault Refusal :=
  s.command fun s => (s.receive bytes).dropGathered

/-- LENGTH_BYTE_OVER_240: the bytes hold a length byte above 240, and the hunt resumes behind its start byte
(R159). -/
def execLengthByteOver240 (bytes : List Byte) (s : State) : Host.Outcome State Fault Refusal :=
  s.command (State.receive bytes)

/-! ## Transmission (R157, R162) -/

/-- CTS_CHANGE (R157). -/
def execCtsChange (asserted : Bool) (s : State) : Host.Outcome State Fault Refusal :=
  s.command fun s => { s with link := { s.link with cts := asserted } }

/-- The last byte of the frame in transmission is sent: a replied request leaves the queue (R160, R162). -/
def State.endFrame (s : State) : State :=
  match s.link.tx with
  | .idle => s
  | .sendingReply _ => { s with link := { s.link with tx := .idle, queue := s.link.queue.tail } }
  | .sendingNotice _ _ _ => { s with link := { s.link with tx := .idle } }

/-- TRANSMIT_END (R162). -/
def execTransmitEnd (s : State) : Host.Outcome State Fault Refusal := s.command State.endFrame

end Sys2Proof.Machine
end

