-- ==== Sys2Proof/Machine/OrderCommands.lean ====
section
/-! DEFINITION. The requests of the order book and the plan builder (chapter 1, R64). -/

namespace Sys2Proof.Machine

/-! ## ORDER_SUBMIT (R8, R9) -/

/-- The index of the first line whose code lies in an enabled HOLD range, lines of amount 0 among them (R8 check 5, R18,
R53, log 56). -/
def State.heldLine (s : State) (lines : List FormulaLine) : Option Nat :=
  (lines.find? fun l => s.hasAttr (·.hold) l.code).map FormulaLine.index

/-- The scale of a submission's lines (R23). -/
def Submission.scale (f : Submission) : Scale := { fill := f.fill, vref := f.vref, strength := f.strength }

/-- Every station still has work on the tin (R7). -/
def Route.all : Route := { dispense := true, mix := true, lid := true }

/-- The record of an accepted order (R9). -/
def Submission.record (f : Submission) (admission : Nat) : Order :=
  { number := f.number, admission := admission, rush := f.rush, cls := f.cls, fill := f.fill, vref := f.vref,
    strength := f.strength, profile := f.profile, holdOpen := f.holdOpen,
    rounds := [{ lines := f.lines, delivered := false }], state := .queued, beforeHold := none, tin := none,
    route := Route.all, lidOnly := false, fromSlot := false, delivered := 0, flags := {}, pendingEnd := none,
    partialPlan := none, fault := none }

/-- The book with an accepted order (R2, R9). -/
def State.takeIn (s : State) (f : Submission) : State :=
  { s with book := { s.book with
      orders := s.book.orders ++ [f.record (s.book.admission + 1)], admission := s.book.admission + 1 } }

/-- The book takes no further order (R2, R8 check 4). -/
def Book.full (b : Book) : Bool :=
  decide (Config.maxOrders ≤ b.orders.length) || decide (Config.admissionLimit ≤ b.admission)

/-- Lines checked against the class table and built into a dry plan (R8 checks 5 to 7, R63): the plan, or
the status and what its reply carries. -/
def State.dryPlan (s : State) (order round : Nat) (sc : Scale) (lines : List FormulaLine) (available : Nat) :
    Except (Status × ReplyBody) PlanContext :=
  match s.heldLine lines with
  | some i => .error (.codeHeld, .line i)
  | none =>
    match s.buildPlan order round sc lines available s.shownPosition with
    | .error i => .error (.lineTooLarge, .line i)
    | .ok plan => if plan.fits then .ok plan else .error (.overfill, .overfill plan.sum plan.available)

/-- The answer to ORDER_SUBMIT (R8, R9, R13). -/
def State.answerSubmit (p : List Byte) (s : State) : Answer :=
  if !submissionLength p 0 then s.refuse .badLength
  else
    match readSubmission p true with
    | none => s.refuse .badField
    | some f =>
      if (s.order? f.number).isSome then s.refuse .duplicateOrder
      else if s.book.full then s.refuse .bookFull
      else
        match s.dryPlan f.number 0 f.scale f.lines (headroom f.cls f.fill) with
        | .error (st, body) => { state := s, status := st, body := body }
        | .ok plan =>
          { state := (s.takeIn f).retryBinding, status := .ok,
            body := .submitted (s.book.admission + 1) plan.counts }

/-- ORDER_SUBMIT (R8, R9). -/
def execOrderSubmit (tag : Byte) (payload : List Byte) (s : State) : Host.Outcome State Fault Refusal :=
  s.requestCommand 0x10 tag payload (State.answerSubmit payload)

/-! ## PLAN_PREVIEW (R64) -/

/-- One entry of a preview with the required volume of its line (R64). -/
def PlanContext.entryReport (p : PlanContext) (i : Nat) : Option EntryReport :=
  (p.entries[i]?).map fun e =>
    { index := i, entry := e,
      required := match p.lines.find? fun l => l.index == e.line with
        | some l => l.required
        | none => 0 }

/-- The summary and up to 5 records from an index (R64). -/
def PlanContext.preview (p : PlanContext) (room first : Nat) : ReplyBody :=
  .preview p.counts room p.entries.length ((List.range 5).filterMap fun k => p.entryReport (first + k))

/-- The answer to PLAN_PREVIEW (R64); the position a carousel in motion shows is a free value, drawn here (log 10). -/
def State.answerPreview (p : List Byte) (s : State) : Answer :=
  if !submissionLength p 1 then s.refuse .badLength
  else
    let first := Bytes.field p (p.length - 1) 1
    match readSubmission p false with
    | none => s.refuse .badField
    | some f =>
      if 47 < first then s.refuse .badField
      else
        match s.heldLine f.lines with
        | some i => { state := s, status := .codeHeld, body := .line i }
        | none =>
          let room := headroom f.cls f.fill
          match s.buildPlan 0 0 f.scale f.lines room s.shownPosition with
          | .error i => { state := s.drawnInMotion, status := .lineTooLarge, body := .line i }
          | .ok plan =>
            { state := s.drawnInMotion, status := if plan.fits then .ok else .overfill, body := plan.preview room first }

/-- PLAN_PREVIEW (R64). -/
def execPlanPreview (tag : Byte) (payload : List Byte) (s : State) : Host.Outcome State Fault Refusal :=
  s.requestCommand 0x17 tag payload (State.answerPreview payload)

/-! ## Requests that name an order -/

/-- The order a payload of exactly the order number names: BAD_LENGTH, then NO_SUCH_ORDER (R1, R16). -/
def State.namedOrder (s : State) (p : List Byte) : Except Status Order :=
  if p.length ≠ 2 then .error .badLength
  else
    match s.order? (Bytes.field p 0 2) with
    | some o => .ok o
    | none => .error .noSuchOrder

/-! ## ORDER_QUERY (R10) -/

/-- The count of some entries in each entry state (R10). -/
def entryCounts (es : List Entry) : EntryCounts :=
  { pending := es.countP (·.state == .pending), active := es.countP (·.state == .active),
    done := es.countP (·.state == .done), skipped := es.countP (·.state == .skipped),
    failed := es.countP (·.state == .failed), partialShot := es.countP (·.state == .partialShot) }

/-- The active or partial plan of an order. -/
def State.planOf (s : State) (o : Order) : Option PlanContext :=
  match s.station.plan with
  | some p => if s.station.order = some o.number then some p else o.partialPlan
  | none => o.partialPlan

/-- An order as ORDER_QUERY reports it (R10). -/
def State.orderReport (s : State) (o : Order) : OrderReport :=
  { number := o.number, admission := o.admission, rush := o.rush, cls := o.cls, fill := o.fill,
    vref := o.vref, strength := o.strength, profile := o.profile, holdOpen := o.holdOpen,
    rounds := o.rounds.map fun r => (r.lines.length, r.delivered), state := o.state,
    beforeHold := o.beforeHold, tin := o.tin.getD 0, route := o.route, lidOnly := o.lidOnly,
    delivered := o.delivered, flags := o.flags, pendingEnd := o.pendingEnd, fault := o.fault,
    entries := (s.planOf o).map fun p => entryCounts p.entries }

/-- The answer to ORDER_QUERY (R10). -/
def State.answerQuery (p : List Byte) (s : State) : Answer :=
  match s.namedOrder p with
  | .error st => s.refuse st
  | .ok o => { state := s, status := .ok, body := .order (s.orderReport o) }

/-- ORDER_QUERY (R10). -/
def execOrderQuery (tag : Byte) (payload : List Byte) (s : State) : Host.Outcome State Fault Refusal :=
  s.requestCommand 0x11 tag payload (State.answerQuery payload)

/-! ## ORDER_CANCEL (R14 to R16, R94) -/

/-- The order has received colourant, by its account and a plan (R7, R173). -/
def Order.receivedColourant (o : Order) (plan : Option PlanContext) : Bool :=
  decide (0 < o.delivered) || o.flags.amountUnknown
    || (match plan with
        | some p => p.gaveColourant
        | none => false)

/-- The cancel of an order bound at the intake: its tin is bound anew, or cleared when it is tinted (R14). -/
def State.cancelAtIntake (s : State) (o : Order) : State :=
  let s := (s.freeOrder o.number .cancelled).setIntakeRequest false
  if o.receivedColourant o.partialPlan then
    s.modIntake fun i => { i with state := .clearing, bound := none }
  else (s.modIntake fun i => { i with lidded := false, bound := none }).takeTin

/-- What a cancel does at the dispense station (R15, R94): a stroke runs on, a transfer in flight runs on,
and every other state clears at once. -/
def State.cancelAtStation (s : State) : State :=
  match s.station.state with
  | .stroking => s
  | .receiving => if s.station.arrivalWaits then s.enterClearing else s
  | _ => s.enterClearing

/-- The pending end set by a cancel with no change of state: one ORDER_STATE is appended (R5). -/
def State.markCancelled (s : State) (n : Nat) : State := (s.setPendingEnd n .cancelled).notifyOrder n

/-- The cancel of an order held on a fault naming the dispense station (R15, R112). -/
def State.cancelHeld (s : State) (n : Nat) (f : FaultRecord) : State :=
  let s := if f.onTransfer then s.setRecord .dispense none else s
  ((s.unhold n).setPendingEnd n .cancelled).enterClearing

/-- ORDER_CANCEL on a live order (R14 to R16): the state after, or TOO_LATE. -/
def State.cancelOrder (s : State) (o : Order) : Except Status State :=
  if o.pendingEnd.isSome then .ok s
  else
    match o.state with
    | .queued | .returning | .check | .interrupted => .ok (s.freeOrder o.number .cancelled)
    | .bound =>
      if s.intake.bound = some o.number then .ok (s.cancelAtIntake o)
      else .ok (s.markCancelled o.number).cancelAtStation
    | .dispensing | .manual => .ok (s.markCancelled o.number).cancelAtStation
    | .held =>
      match o.fault with
      | some f => if f.station = .dispense then .ok (s.cancelHeld o.number f) else .error .tooLate
      | none => .error .tooLate
    | .dispensed | .mixing | .lidding | .outlet => .error .tooLate

/-- The answer to ORDER_CANCEL (R14 to R16). -/
def State.answerCancel (p : List Byte) (s : State) : Answer :=
  match s.namedOrder p with
  | .error st => s.refuse st
  | .ok o =>
    match s.cancelOrder o with
    | .ok t => t.accept
    | .error st => s.refuse st

/-- ORDER_CANCEL (R14 to R16). -/
def execOrderCancel (tag : Byte) (payload : List Byte) (s : State) : Host.Outcome State Fault Refusal :=
  s.requestCommand 0x12 tag payload (State.answerCancel payload)

/-! ## The return slot: ORDER_CORRECT, ORDER_APPROVE, ORDER_RESUME (R17 to R19) -/

/-- An order enters the return slot, and binding is retried for it (R13, R17). -/
def State.enterSlot (s : State) (n : Nat) : State :=
  ((s.setSlot (some n)).changeOrder n .returning).retryBinding

/-- The checks on the order number, the state and the slot (R17 checks 3 to 5). An order number of 0 names no order
(log 48). -/
def State.slotChecks (s : State) (n : Nat) (st : OrderState) : Except Status Order :=
  match s.order? n with
  | none => .error .noSuchOrder
  | some o =>
    if o.state ≠ st then .error .wrongState
    else if s.book.slot.isSome then .error .returnBusy
    else .ok o

/-- A correction round accepted (R18). -/
def Order.corrected (o : Order) (lines : List FormulaLine) : Order :=
  { o with rounds := o.rounds ++ [{ lines := lines, delivered := false }], route := Route.all,
           lidOnly := false }

/-- The answer to ORDER_CORRECT (R17, R18; layout log 5: order number, line count, lines). -/
def State.answerCorrect (p : List Byte) (s : State) : Answer :=
  let count := Bytes.field p 2 1
  let sent := linesAt p 3 count
  if p.length < 3 ∨ p.length ≠ 3 + 3 * count then s.refuse .badLength
  else if count < 1 ∨ 6 < count ∨ !codesInRange sent then s.refuse .badField
  else
    match s.slotChecks (Bytes.field p 0 2) .check with
    | .error st => s.refuse st
    | .ok o =>
      if 4 ≤ o.rounds.length then s.refuse .roundsFull
      else
        let lines := mergeLines sent
        match s.dryPlan o.number o.rounds.length .correction lines o.available with
        | .error (st, body) => { state := s, status := st, body := body }
        | .ok plan =>
          { state := (s.modOrder o.number fun o => o.corrected lines).enterSlot o.number, status := .ok,
            body := .corrected o.rounds.length plan.counts }

/-- ORDER_CORRECT (R18). -/
def execOrderCorrect (tag : Byte) (payload : List Byte) (s : State) : Host.Outcome State Fault Refusal :=
  s.requestCommand 0x13 tag payload (State.answerCorrect payload)

/-- The lid alone is left to do (R7, R17). -/
def Order.approved (o : Order) : Order :=
  { o with route := { dispense := false, mix := false, lid := true }, lidOnly := true }

/-- The answer to ORDER_APPROVE (R17). -/
def State.answerApprove (p : List Byte) (s : State) : Answer :=
  if p.length ≠ 2 then s.refuse .badLength
  else
    match s.slotChecks (Bytes.field p 0 2) .check with
    | .error st => s.refuse st
    | .ok o => ((s.modOrder o.number Order.approved).enterSlot o.number).accept

/-- ORDER_APPROVE (R17). -/
def execOrderApprove (tag : Byte) (payload : List Byte) (s : State) : Host.Outcome State Fault Refusal :=
  s.requestCommand 0x14 tag payload (State.answerApprove payload)

/-- The answer to ORDER_RESUME (R17, R19). -/
def State.answerResume (p : List Byte) (s : State) : Answer :=
  if p.length ≠ 2 then s.refuse .badLength
  else
    match s.slotChecks (Bytes.field p 0 2) .interrupted with
    | .error st => s.refuse st
    | .ok o =>
      if o.flags.amountUnknown || o.flags.lidded then s.refuse .wrongState
      else (s.enterSlot o.number).accept

/-- ORDER_RESUME (R19). -/
def execOrderResume (tag : Byte) (payload : List Byte) (s : State) : Host.Outcome State Fault Refusal :=
  s.requestCommand 0x18 tag payload (State.answerResume payload)

end Sys2Proof.Machine
end

