-- ==== Sys2Proof/Machine/ResolveCommands.lean ====
section
/-! DEFINITION. RESOLVE (sections 5.5 and 9.5), action by action, and the answers to a manual step. -/

namespace Sys2Proof.Machine

/-! ## The checks of RESOLVE (R154) -/

/-- The order and fault record a RESOLVE acts on, or the first check it fails (R154 checks 1 to 3, 5
and 6). -/
def State.resolveChecks (s : State) (a : Action) (p : List Byte) : Except Status (Order × FaultRecord) :=
  if p.length ≠ 3 then .error .badLength
  else if Action.ofCode (Bytes.field p 2 1) = none then .error .badField
  else
    match s.order? (Bytes.field p 0 2) with
    | none => .error .noSuchOrder
    | some o =>
      match o.fault with
      | none => .error .wrongState
      | some f => if f.allowed.contains a then .ok (o, f) else .error .actionNotAllowed

/-- RESOLVE with one action: the checks, the record removed, the action handed on and OK (R154). -/
def State.answerResolve (a : Action) (act : Order → FaultRecord → State → State) (p : List Byte) (s : State) :
    Answer :=
  match s.resolveChecks a p with
  | .error st => s.refuse st
  | .ok (o, f) => (act o f (s.unhold o.number)).accept

/-- A RESOLVE row as a command: a payload whose action is another row's changes nothing (log 34). -/
def State.resolveCommand (s : State) (a : Action) (tag : Byte) (payload : List Byte)
    (owner : List Byte → State → Answer) : Host.Outcome State Fault Refusal :=
  s.command fun s => if a.owns payload then s.request 0x15 tag payload (owner payload) else s

/-! ## Actions at the dispense station (R87, R155) -/

/-- The entry a record is about, or the current one. -/
def State.faultEntry (s : State) (f : FaultRecord) : Nat := f.entry.getD (s.curIndex.getD 0)

/-- RETRY_SHOT: one further top-up after UNDER, the remainder after STALL or UNSEATED (R87). -/
def State.actRetryShot (_ : Order) (f : FaultRecord) (s : State) : State :=
  if f.kind = .under then
    (s.setEntry (s.faultEntry f) .active).needReading.beginOrHold .topup
  else s.retryPartial

/-- RESOLVE RETRY_SHOT (R87, R155). -/
def execResolveRetryShot (tag : Byte) (payload : List Byte) (s : State) : Host.Outcome State Fault Refusal :=
  s.resolveCommand .retryShot tag payload (State.answerResolve .retryShot State.actRetryShot)

/-- SKIP_SHOT: the entry is SKIPPED and the next one served (R155). -/
def State.actSkipShot (_ : Order) (f : FaultRecord) (s : State) : State :=
  (s.setEntry (s.faultEntry f) .skipped).serveNext

/-- RESOLVE SKIP_SHOT (R155). -/
def execResolveSkipShot (tag : Byte) (payload : List Byte) (s : State) : Host.Outcome State Fault Refusal :=
  s.resolveCommand .skipShot tag payload (State.answerResolve .skipShot State.actSkipShot)

/-- ACCEPT: the entry is DONE, OVER_ACCEPTED is set after OVER, and the next entry is served (R155). -/
def State.actAccept (o : Order) (f : FaultRecord) (s : State) : State :=
  let s := s.setEntry (s.faultEntry f) .done
  (if f.kind = .over then s.setFlag o.number fun g => { g with overAccepted := true } else s).serveNext

/-- RESOLVE ACCEPT (R155). -/
def execResolveAccept (tag : Byte) (payload : List Byte) (s : State) : Host.Outcome State Fault Refusal :=
  s.resolveCommand .accept tag payload (State.answerResolve .accept State.actAccept)

/-- What an action begins at the dispense station: with a pending end it begins nothing and the station clears
(R15, log 14). -/
def State.unlessEnded (o : Order) (s : State) (begin : State → State) : State :=
  if o.pendingEnd.isSome then s.enterClearing else begin s

/-- RETRY at the dispense station: homing after LOST, the resumption of R92 after ESTOP (R15, R87, log 14). -/
def State.retryStation (o : Order) (f : FaultRecord) (s : State) : State :=
  if f.kind = .estop then
    s.unlessEnded o fun s =>
      match s.station.resume with
      | some .serve => s.retryPartial
      | some .verdict => s.retryVerdict
      | some r => s.beginOrHold r
      | none => s
  else s.beginOrHold .homing

/-- RETRY at a bay: LOADING with its tin, profile and mix done as they stand (R126, R127). -/
def State.retryBay (s : State) (b : BayId) : State :=
  s.modBay b fun y => { y with state := .loading, cause := none, brake := false }

/-- RETRY at the lidder: a press cycle or a placing when starts are allowed (R137, R138). -/
def State.retryLidder (s : State) (k : FaultKind) : State :=
  s.modLidder fun l => { l with
    state := .receiving
    resume := if k = .estop then l.resume else if l.lidOn then some .press else some .place }

/-- RETRY of a transfer cut off by an e-stop: an arrival when its tin has arrived, else it waits to run again
(R118). -/
def State.retryTransfer (s : State) (d : Dest) : State :=
  match s.record d with
  | some t => if t.arrived then s.endArrival d t else s.setRecord d (some { t with retried := true })
  | none => s

/-- RETRY (R155): the operation is taken up again where the record says it stopped. -/
def State.actRetry (o : Order) (f : FaultRecord) (s : State) : State :=
  if f.onTransfer then s.retryTransfer f.station
  else
    match f.station with
    | .dispense => s.retryStation o f
    | .bay b => s.retryBay b
    | .lidder => s.retryLidder f.kind
    | .outlet => s

/-- RESOLVE RETRY (R155). -/
def execResolveRetry (tag : Byte) (payload : List Byte) (s : State) : Host.Outcome State Fault Refusal :=
  s.resolveCommand .retry tag payload (State.answerResolve .retry State.actRetry)

/-- CONFIRM: the tin is taken as arrived (R117). -/
def State.actConfirm (_ : Order) (f : FaultRecord) (s : State) : State :=
  match s.record f.station with
  | some t => s.endArrival f.station t
  | none => s

/-- RESOLVE CONFIRM (R117). -/
def execResolveConfirm (tag : Byte) (payload : List Byte) (s : State) : Host.Outcome State Fault Refusal :=
  s.resolveCommand .confirm tag payload (State.answerResolve .confirm State.actConfirm)

/-- PASS: the tin goes on unlidded (R137). -/
def State.actPass (o : Order) (_ : FaultRecord) (s : State) : State := (s.lidDone o.number).dischargeWait

/-- RESOLVE PASS (R137). -/
def execResolvePass (tag : Byte) (payload : List Byte) (s : State) : Host.Outcome State Fault Refusal :=
  s.resolveCommand .pass tag payload (State.answerResolve .pass State.actPass)

/-- SCRAP: the pending end is SCRAPPED unless CANCELLED stands, and the block named clears (R155). -/
def State.actScrap (o : Order) (f : FaultRecord) (s : State) : State :=
  let s := s.setPendingEnd o.number .scrapped
  if f.onTransfer then
    match s.record f.station with
    | some t => s.scrapTransfer f.station t
    | none => s
  else
    match f.station with
    | .dispense => s.enterClearing
    | .bay b => s.clearBay b
    | .lidder => s.clearLidder
    | .outlet => s

/-- RESOLVE SCRAP (R155). -/
def execResolveScrap (tag : Byte) (payload : List Byte) (s : State) : Host.Outcome State Fault Refusal :=
  s.resolveCommand .scrap tag payload (State.answerResolve .scrap State.actScrap)

/-- REMAKE: the tin context is released and the station waits for a fresh tin; an order with a pending end gets none
(R15, R71, R96, logs 14 and 41). -/
def State.actRemake (o : Order) (_ : FaultRecord) (s : State) : State :=
  s.unlessEnded o fun s =>
    let s := s.modOrder o.number fun o => { o with tin := none }
    let s := s.modStation fun st => { st with
      state := .awaitRemakeTin, tin := none, cur := none, resume := none,
      plan := st.plan.map fun p => { p with resetDue := true } }
    s.changeOrder o.number .dispensing

/-- RESOLVE REMAKE (R71, R96). -/
def execResolveRemake (tag : Byte) (payload : List Byte) (s : State) : Host.Outcome State Fault Refusal :=
  s.resolveCommand .remake tag payload (State.answerResolve .remake State.actRemake)

/-- CANCEL: the pending end is CANCELLED and the station clears (R155). -/
def State.actCancel (o : Order) (_ : FaultRecord) (s : State) : State :=
  (s.setPendingEnd o.number .cancelled).enterClearing

/-- RESOLVE CANCEL (R155). -/
def execResolveCancel (tag : Byte) (payload : List Byte) (s : State) : Host.Outcome State Fault Refusal :=
  s.resolveCommand .cancel tag payload (State.answerResolve .cancel State.actCancel)

/-- RELEASE of a held order: it is freed, its tin is untracked and the station clears (R155). -/
def State.actRelease (o : Order) (_ : FaultRecord) (s : State) : State :=
  ((s.freeOrder o.number .released).modStation fun st =>
    { st with order := none, tin := none, plan := none }).enterClearing

/-- The answer to RELEASE: an INTERRUPTED order is freed at once (R154 check 4), a held one by the record. -/
def State.answerRelease (p : List Byte) (s : State) : Answer :=
  match s.order? (Bytes.field p 0 2) with
  | some o =>
    if p.length = 3 ∧ Action.ofCode (Bytes.field p 2 1) = some .release ∧ o.state = .interrupted then
      (s.freeOrder o.number .released).accept
    else s.answerResolve .release State.actRelease p
  | none => s.answerResolve .release State.actRelease p

/-- RESOLVE RELEASE (R154, R155). -/
def execResolveRelease (tag : Byte) (payload : List Byte) (s : State) : Host.Outcome State Fault Refusal :=
  s.resolveCommand .release tag payload State.answerRelease

/-! ## MANUAL_DONE and MANUAL_SKIP (R89, R90) -/

/-- The checks of MANUAL_DONE and MANUAL_SKIP; the mass is read only where it is used (R89, R90). -/
def State.manualChecks (s : State) (p : List Byte) (f : ManualFields) (readMass : Bool) : Option Status :=
  if p.length ≠ manualLength then some .badLength
  else if readMass && decide (Config.maxMass < f.mass.getD 0) then some .badField
  else if (s.order? f.order).isNone then some .noSuchOrder
  else if s.station.state ≠ .awaitManual ∨ s.station.order ≠ some f.order ∨ s.curIndex ≠ some f.entry then
    some .wrongState
  else none

/-- The answer to MANUAL_DONE (R89): the addition is weighed. -/
def State.answerManualDone (p : List Byte) (s : State) : Answer :=
  let f := readManual p
  match s.manualChecks p f true with
  | some st => s.refuse st
  | none => ((s.modCur fun c => { c with hostMass := f.mass }).settleVerdict).accept

/-- The answer to MANUAL_SKIP (R90): the entry is SKIPPED and the next one served. -/
def State.answerManualSkip (p : List Byte) (s : State) : Answer :=
  let f := readManual p
  match s.manualChecks p f false with
  | some st => s.refuse st
  | none =>
    (((s.setEntry f.entry .skipped).setFlag f.order fun g => { g with manualSkipped := true }).serveNext).accept

/-- MANUAL_DONE with its skip flag clear (R89; log 34). -/
def execManualDone (tag : Byte) (payload : List Byte) (s : State) : Host.Outcome State Fault Refusal :=
  s.command fun s =>
    if payload.length = manualLength ∧ manualSkipFlag payload then s
    else s.request 0x16 tag payload (State.answerManualDone payload)

/-- MANUAL_SKIP: MANUAL_DONE with its skip flag set (R90; log 34). -/
def execManualSkip (tag : Byte) (payload : List Byte) (s : State) : Host.Outcome State Fault Refusal :=
  s.command fun s =>
    if payload.length = manualLength ∧ !manualSkipFlag payload then s
    else s.request 0x16 tag payload (State.answerManualSkip payload)

end Sys2Proof.Machine
end

