-- ==== Sys2Proof/Machine/LineCommands.lean ====
section
/-! DEFINITION. The line mode unit (chapter 9): the line requests, CLEAR_LINE, the e-stop chain and the
completion of a pause. -/

namespace Sys2Proof.Machine

/-! ## LINE_RUN, LINE_PAUSE, LINE_SERVICE, STOP_RESET (R145 to R149) -/

/-- The pending mode request set without a change of mode (R144). -/
def State.setPendingMode (s : State) (p : Option PendingMode) : State :=
  { s with line := { s.line with pendingMode := p } }

/-- The answer to LINE_RUN (R145). -/
def State.answerRun (p : List Byte) (s : State) : Answer :=
  s.bare p fun s =>
    match s.line.mode, s.line.pendingMode with
    | .paused, none =>
      if s.positioner.state = .homed then (s.setMode .running none).accept
      else (s.setPendingMode (some .run)).askHoming.accept
    | .paused, some _ => s.accept
    | .service, _ => (s.setMode .paused (some .run)).askHoming.accept
    | .running, some _ => (s.setPendingMode none).accept
    | .running, none => s.accept
    | .stopped, _ => s.refuse .mode

/-- LINE_RUN (R145). -/
def execLineRun (tag : Byte) (payload : List Byte) (s : State) : Host.Outcome State Fault Refusal :=
  s.requestCommand 0x40 tag payload (State.answerRun payload)

/-- The mode becomes PAUSED when a pause is pending and every station is at rest (R146). -/
def State.completePause (s : State) : State :=
  if s.line.mode = .running ∧ s.line.pendingMode = some .pause ∧ s.allAtRest then s.setMode .paused none
  else s

/-- The answer to LINE_PAUSE (R146). A stroke waiting for its canister is put off at once (R77). -/
def State.answerPause (p : List Byte) (s : State) : Answer :=
  s.bare p fun s =>
    match s.line.mode, s.line.pendingMode with
    | .running, some .pause => s.accept
    | .running, _ => (s.setPendingMode (some .pause)).holdWaiting.completePause.accept
    | .paused, _ => (s.setPendingMode none).accept
    | .service, _ => (s.setMode .paused none).askHoming.accept
    | .stopped, _ => s.refuse .mode

/-- LINE_PAUSE (R146). -/
def execLinePause (tag : Byte) (payload : List Byte) (s : State) : Host.Outcome State Fault Refusal :=
  s.requestCommand 0x41 tag payload (State.answerPause payload)

/-- LINE_SERVICE can be taken (R147). -/
def State.serviceAllowed (s : State) : Bool :=
  s.line.mode == .paused && s.line.pendingMode.isNone && s.positioner.state != .homing
    && s.positioner.state != .moving && !s.station.entriesPending

/-- The positioner made UNHOMED (R57). -/
def State.unhome (s : State) : State :=
  { s with positioner := { s.positioner with state := .unhomed, move := none } }

/-- The answer to LINE_SERVICE (R147). -/
def State.answerService (p : List Byte) (s : State) : Answer :=
  s.bare p fun s =>
    if s.serviceAllowed then (s.setMode .service none).unhome.accept else s.refuse .mode

/-- LINE_SERVICE (R147). -/
def execLineService (tag : Byte) (payload : List Byte) (s : State) : Host.Outcome State Fault Refusal :=
  s.requestCommand 0x42 tag payload (State.answerService payload)

/-- The answer to STOP_RESET (R149). -/
def State.answerStopReset (p : List Byte) (s : State) : Answer :=
  s.bare p fun s =>
    if s.line.mode = .stopped ∧ !s.line.chainOpen then
      (({ s with line := { s.line with latch := false } } : State).setMode .paused none).accept
    else s.refuse .mode

/-- STOP_RESET (R149). -/
def execStopReset (tag : Byte) (payload : List Byte) (s : State) : Host.Outcome State Fault Refusal :=
  s.requestCommand 0x43 tag payload (State.answerStopReset payload)

/-- PAUSE_COMPLETE (R146). -/
def execPauseComplete (s : State) : Host.Outcome State Fault Refusal := s.command State.completePause

/-! ## Orders that lose their tin (R21, R68, R150, R173) -/

/-- What becomes of an order that loses its tin. -/
inductive Loss where
  | freed | interrupted | queued
  deriving DecidableEq, Repr

/-- The plan context the station holds for an order, reset first where a remake left that due (R68). -/
def State.stationPlan (s : State) (n : Nat) : Option PlanContext :=
  if s.station.order = some n then
    s.station.plan.map fun p => if p.resetDue then p.afterReset else p
  else none

/-- The current round is OPEN (R3). -/
def Order.roundOpen (o : Order) : Bool :=
  match o.rounds.getLast? with
  | some r => !r.delivered
  | none => false

/-- The plan an order would keep as its partial plan: the station's while its round is OPEN, else its own
(R68, log 22). -/
def State.keptPlan (s : State) (o : Order) : Option PlanContext :=
  match s.stationPlan o.number with
  | some p => if o.roundOpen then some p else o.partialPlan
  | none => o.partialPlan

/-- What R21 makes of an order that loses its tin. -/
def State.lossOf (s : State) (o : Order) : Loss :=
  if o.pendingEnd.isSome then .freed
  else if o.receivedColourant (s.keptPlan o) then .interrupted
  else .queued

/-- The record of an order made INTERRUPTED (R21, R68). -/
def Order.interrupt (o : Order) (plan : Option PlanContext) : Order :=
  { o with tin := none, fault := none, beforeHold := none, partialPlan := plan.map PlanContext.toPartial }

/-- The record of an order returned to QUEUED, its current round OPEN (R21, R133, log 22). -/
def Order.requeue (o : Order) : Order :=
  { o with
    tin := none, fault := none, beforeHold := none, partialPlan := none, route := Route.all,
    lidOnly := false, fromSlot := false,
    rounds := o.rounds.modify (o.rounds.length - 1) fun r => { r with delivered := false } }

/-- An order loses its tin (R21). -/
def State.loseTin (s : State) (n : Nat) : State :=
  match s.order? n with
  | none => s
  | some o =>
    match s.lossOf o with
    | .freed => s.reportLift n
    | .interrupted =>
      let plan := s.keptPlan o
      (s.modOrder n fun o => o.interrupt plan).changeOrder n .interrupted
    | .queued => (s.modOrder n Order.requeue).changeOrder n .queued

/-! ## CLEAR_LINE (R150) -/

/-- A lane in CLEARING that holds the order's tin: that tin is in a lane, not on the line before it. -/
def State.inClearingLane (s : State) (n : Nat) : Bool :=
  s.lanes.toList.any fun l => l.state == .clearing && (l.tin.map TinRef.order) == some n

/-- The orders whose tins CLEAR_LINE gives up: at the intake in BOUND, at a station or in transfer (R150). -/
def State.onLine (s : State) (o : Order) : Bool :=
  match o.state with
  | .bound | .dispensing | .manual | .held | .dispensed | .mixing | .lidding => !s.inClearingLane o.number
  | .queued | .outlet | .check | .returning | .interrupted => false

/-- The intake emptied or set clearing (R21). -/
def Intake.clearedLine (i : Intake) : Intake :=
  { i with state := if i.present then .clearing else .empty, bound := none }

/-- The station emptied or set clearing (R97). -/
def Station.clearedLine (st : Station) : Station :=
  { Station.start with
    state := if st.present then .clearing else .idle, present := st.present, size := st.size, lid := st.lid }

/-- A bay emptied or set clearing, its brake held until the yoke stands; one already EMPTY keeps its empty-since time
(R129, R130, log 28). -/
def Bay.clearedLine (y : Bay) (moment : Nat) : Bay :=
  { Bay.start with
    state := if y.present then .clearing else .empty, brake := y.brakeHeld && y.present,
    present := y.present,
    clampClosed := y.clampClosed,
    emptySince := if !y.present && y.state != .empty then moment else y.emptySince }

/-- The lidder emptied or set clearing, its magazines kept (R143). -/
def Lidder.clearedLine (l : Lidder) : Lidder :=
  { Lidder.start with
    state := if l.present then .clearing else .idle, magazines := l.magazines, present := l.present }

/-- A lane at CLEAR_LINE: only a reservation is released (R143). -/
def LaneRecord.clearedLine (l : LaneRecord) : LaneRecord :=
  if l.state = .reserved then { l with state := if l.present then .clearing else .empty, tin := none } else l

/-- Every station, record and request cleared, the last settled reading with them; the tables, the positioner and the
mode stay (R111, R150, log 49). -/
def State.clearStations (s : State) : State :=
  ({ s with
    intake := s.intake.clearedLine, station := s.station.clearedLine, conveyor := Conveyor.start,
    bayOne := s.bayOne.clearedLine (s.moment + 1), bayTwo := s.bayTwo.clearedLine (s.moment + 1),
    lidder := s.lidder.clearedLine
    lanes := Vector.ofFn fun i : Lane => s.lanes[i].clearedLine
    weigh := { s.weigh with settling := false, span := [], last := none } } : State).tick

/-- How many of some orders lose their tins in one way (R150). -/
def State.countLoss (s : State) (os : List Order) (k : Loss) : Nat := os.countP fun o => s.lossOf o == k

/-- The answer to CLEAR_LINE (R150). -/
def State.answerClearLine (p : List Byte) (s : State) : Answer :=
  s.bare p fun s =>
    match s.line.mode with
    | .running | .service => s.refuse .mode
    | .paused | .stopped =>
      let os := s.book.orders.filter s.onLine
      { state := (os.foldl (fun t o => t.loseTin o.number) s).clearStations, status := .ok
        body := .cleared (s.countLoss os .interrupted) (s.countLoss os .queued) (s.countLoss os .freed) }

/-- CLEAR_LINE (R150). -/
def execClearLine (tag : Byte) (payload : List Byte) (s : State) : Host.Outcome State Fault Refusal :=
  s.requestCommand 0x44 tag payload (State.answerClearLine payload)

/-! ## The e-stop chain (R148) -/

/-- A move cut off before its target: LOST, at the position last counted (R56). -/
def Positioner.cutMove (p : Positioner) (travelled : Nat) : Positioner :=
  { p with
    state := .lost, move := none
    position := match p.move with
      | some m => m.counted travelled
      | none => p.position }

/-- The carousel when motion is stopped: a move is LOST, a homing UNHOMED, else unchanged (R54, R56, R57). A homing
that has seen the mark and not yet stopped at position 0 is UNHOMED too, which is the model's reading (log 61). -/
def Positioner.stopped (p : Positioner) (travelled : Nat) : Positioner :=
  match p.state with
  | .moving => p.cutMove travelled
  | .homing => { p with state := .unhomed, markSeen := false }
  | .unhomed | .homed | .lost | .failed => p

/-- The station HALTED by the e-stop with its resumption (R92). -/
def State.haltStation (s : State) (entry : Option Nat) (r : ResumePoint) : State :=
  (s.raise .estop entry .none .halted).modStation fun st =>
    { st with resume := some r, finding := none, awaitHoming := false }

/-- What the opening of the chain does at the dispense station (R92). The current entry stands, with the host mass of a
MANUAL_DONE whose settle is abandoned (log 60). -/
def State.stopStation (s : State) (count : Option Nat) : State :=
  match s.station.state with
  | .taring => s.abandonSettle.haltStation none .tare
  | .planning => s.haltStation s.curIndex .next
  | .moving => s.haltStation s.curIndex .homing
  | .stroking =>
    let s := s.endStroke count
    match s.curIndex with
    | some i => (s.setEntry i .partialShot).haltStation (some i) .serve
    | none => s.haltStation none .serve
  | .settling | .verifying =>
    let s := s.abandonSettle
    if s.station.settleFor = .phaseStart then s.haltStation s.curIndex .startReading
    else
      match s.station.cur with
      | some c =>
        (if c.phase = .manual then s else s.setEntry c.index .partialShot).haltStation (some c.index) .verdict
      | none => s.haltStation none .verdict
  | .waitCanister => s.haltStation s.curIndex .strokeCheck
  | .awaitManual => s.haltStation s.curIndex .manualStep
  | .idle | .receiving | .pausedHold | .faultHeld | .complete | .sending | .awaitRemakeTin | .clearing
  | .halted => s

/-- A RUNNING transfer HALTED, with ESTOP against its order (R118). -/
def State.stopTransfer (s : State) (d : Dest) : State :=
  match s.record d with
  | some t =>
    if t.state = .running then
      (s.setRecord d (some { t with state := .halted, retried := false })).faultAtDest t.order d .estop true
    else s
  | none => s

/-- A working bay HALTED: spin cut, brake applied, clamp drive held (R127, table 7.7). -/
def Bay.halted (y : Bay) : Bay :=
  match y.state with
  | .clamping | .unclamping => { y with state := .halted, clamp := .stopped, brake := true }
  | .spinning | .braking => { y with state := .halted, cause := none, brake := true }
  | .empty | .loading | .ready | .fault | .halted | .clearing => y

/-- A working bay HALTED with ESTOP (R127). -/
def State.stopBay (s : State) (b : BayId) : State :=
  if (s.bay b).state.atRest then s
  else (s.modBay b Bay.halted).faultAtDest (s.bay b).tinOrder (.bay b) .estop false

/-- The lidder where its motion is stopped (R138). -/
def Lidder.halted (l : Lidder) : Lidder :=
  match l.state.haltPoint with
  | some r => { l with state := .halted, resume := some r }
  | none => l

/-- A working lidder HALTED with ESTOP (R138). -/
def State.stopLidder (s : State) : State :=
  if s.lidder.state.haltPoint.isSome then
    (s.modLidder Lidder.halted).faultAtDest s.lidder.tinOrder .lidder .estop false
  else s

/-- What can raise ESTOP at an opening: the station, each transfer, each bay and the lidder (R148). -/
inductive StopUnit where
  | station
  | transfer (d : Dest)
  | bay (b : BayId)
  | lidder
  deriving DecidableEq, Repr

/-- The units that stop at an opening (R148). -/
def stopUnits : List StopUnit :=
  [.station, .transfer .dispense, .transfer (.bay .one), .transfer (.bay .two), .transfer .lidder,
   .transfer .outlet, .bay .one, .bay .two, .lidder]

/-- One unit stops (R92, R118, R127, R138). -/
def State.stopUnit (count : Option Nat) (s : State) : StopUnit → State
  | .station => s.stopStation count
  | .transfer d => s.stopTransfer d
  | .bay b => s.stopBay b
  | .lidder => s.stopLidder

/-- The units stop one after another; the notices of each are gathered apart and not yet appended. -/
def State.gatherStops (count : Option Nat) (s : State) : List StopUnit → State × List (List NoticeBody)
  | [] => (s, [])
  | u :: rest =>
    let t := ({ s with notices := [] } : State).stopUnit count u
    let (t', more) := ({ t with notices := s.notices } : State).gatherStops count rest
    (t', t.notices.map Notice.body :: more)

/-- The notices of several units appended in any order that keeps each unit's own: the unit that appends next
is a free value while two or more have notices left (R148, log 9). `fuel` is at least their number. -/
def State.appendAnyOrder (s : State) : Nat → List (List NoticeBody) → State
  | 0, _ => s
  | fuel + 1, ls =>
    match ls.filter fun l => !l.isEmpty with
    | [] => s
    | [l] => l.foldl State.notify s
    | l :: m :: rest =>
      let ls := l :: m :: rest
      let k := s.draw % ls.length
      match (ls.getD k []).head? with
      | some b => (s.drawn.notify b).appendAnyOrder fuel (ls.modify k List.tail)
      | none => s

/-- Every block that commands motion stops (R148). -/
def State.stopBlocks (s : State) (count : Option Nat) (travelled : Nat) : State :=
  let s := { s with positioner := s.positioner.stopped travelled }
  let (t, ls) := s.gatherStops count stopUnits
  t.appendAnyOrder ls.flatten.length ls

/-- The opening of the e-stop chain (R148). -/
def State.openChain (count : Option Nat) (travelled : Nat) (s : State) : State :=
  let s' := { s with line := { s.line with chainOpen := true, latch := true } }
  if s.line.mode = .stopped then s'
  else
    let s' := { s' with line := { s'.line with mode := .stopped, pendingMode := none } }
    ((s'.notify (.estop s.line.mode)).notify (.lineMode .stopped none)).stopBlocks count travelled

/-- ESTOP_CHAIN_OPEN (R148). -/
def execEstopChainOpen (count : Option Nat) (travelled : Nat) (s : State) : Host.Outcome State Fault Refusal :=
  s.command (State.openChain count travelled)

/-- ESTOP_CHAIN_CLOSE: only the chain reading changes (R148). -/
def execEstopChainClose (s : State) : Host.Outcome State Fault Refusal :=
  s.command fun s => { s with line := { s.line with chainOpen := false } }

end Sys2Proof.Machine
end

