-- ==== Sys2Proof/Machine/LineEvents.lean ====
section
/-! DEFINITION. The events of the intake, the conveyor, the bays, the lidder and the outlet (section 1.5 and
chapters 7 and 8). -/

namespace Sys2Proof.Machine

/-! ## Intake (R11 to R13) -/

/-- A tin placed at the intake (R11). -/
def State.placeTin (cls : TinClass) (lidded : Bool) (s : State) : State :=
  let s := if s.intake.state = .bound then s.liftIntake else s
  let s := s.modIntake fun i => { i with present := true, cls := cls, lidded := lidded }
  if lidded then
    (s.modIntake fun i => { i with state := .refused, reason := .lidded, bound := none }).notify
      (.liddedTin .intake)
  else s.takeTin

/-- INTAKE_TIN_PLACED (R11, R12). -/
def execIntakeTinPlaced (cls : TinClass) (lidded : Bool) (s : State) : Host.Outcome State Fault Refusal :=
  s.command (State.placeTin cls lidded)

/-- Binding attempted or retried with the gate open (R11, R13). -/
def State.bindRetry (s : State) : State :=
  if s.intake.state = .waiting ∧ s.startsAllowed then s.attemptBinding else s.retryBinding

/-- INTAKE_BIND_RETRY: the gate has opened (R11, R13). -/
def execIntakeBindRetry (s : State) : Host.Outcome State Fault Refusal := s.command State.bindRetry

/-- INTAKE_TIN_LIFTED (R13). -/
def execIntakeTinLifted (s : State) : Host.Outcome State Fault Refusal :=
  s.command fun s => (s.modIntake fun i => { i with present := false }).liftIntake

/-! ## Conveyor (R114 to R116) -/

/-- A record as its transfer starts (R114). -/
def Transfer.started (source : Source) (order tin : Nat) (lane : Option Lane) (waits : Bool)
    (ctx : Option TinContext) (gentle : Bool) : Transfer :=
  { source := source, order := order, tin := tin, lane := lane, state := .running, arrived := false,
    retried := false, sourceWaits := waits, tinContext := ctx, gentle := gentle }

/-- The intake's transfer starts when the station is IDLE and empty (R13, R75, R114). -/
def State.startIntake (s : State) : State :=
  match s.intake.state, s.intake.bound with
  | .bound, some n =>
    if s.conveyor.intakeRequest && s.startsAllowed && (s.record .dispense).isNone
        && s.station.state == .idle && !s.station.present then
      let tin := ((s.order? n).bind (·.tin)).getD 0
      let s := s.setRecord .dispense (some (.started .intake n tin none false none false))
      let s := s.modStation fun st => { st with state := .receiving, order := some n }
      (s.setIntakeRequest false).modIntake fun i => { i with state := .empty, bound := none }
    else s
  | _, _ => s

/-- The GENTLE record that goes with the station's tin: its plan's, or that of a tin passed through (R65). -/
def Station.gentleRecord (st : Station) : Bool :=
  match st.plan with
  | some p => p.gentle
  | none => st.gentle

/-- The tin id the station's tin context holds; 0 when there is none. -/
def Station.tinId (st : Station) : Nat :=
  match st.tin with
  | some t => t.id
  | none => 0

/-- The station's tin leaves: SENDING, the plan context discarded and the tin context passed on
(R68, R91). -/
def State.sendTin (s : State) : State :=
  let s := s.modStation fun st => { st with state := .sending, plan := none, tin := none, freshNeeded := false }
  { s with conveyor := { s.conveyor with stationRequest := false } }

/-- The record of a transfer from the station. -/
def Station.transfer (st : Station) : Transfer :=
  .started .dispense (st.order.getD 0) st.tinId none true st.tin st.gentleRecord

/-- The station's transfer to the bay chosen starts (R114, R120). -/
def State.startStation (s : State) : State :=
  if s.conveyor.stationRequest && s.startsAllowed && s.station.state == .complete then
    let t := s.station.transfer
    match (s.order? t.order).bind fun o => s.chooseBay o.cls with
    | some b =>
      (((s.setRecord (.bay b) (some t)).modBay b fun y =>
        { y with reservation := some { order := t.order, tin := t.tin } }).sendTin)
    | none => s
  else s

/-- The lidder's transfer to the lowest free lane starts (R114, R139). -/
def State.startLidder (s : State) : State :=
  if s.conveyor.outletRequest && s.startsAllowed && s.lidder.state == .dischargeWait
      && (s.record .outlet).isNone then
    match s.lidder.tin, s.freeLane with
    | some t, some lane =>
      let s := s.setRecord .outlet (some (.started .lidder t.order t.tin (some lane) true none false))
      let s := s.modLane lane fun l => { l with
        state := .reserved, tin := some { order := t.order, tin := t.tin } }
      let s := s.modLidder fun l => { l with
        state := .sending, tin := none, arrived := false, lidOn := false, repressUsed := false }
      { s with conveyor := { s.conveyor with outletRequest := false } }
    | _, _ => s
  else s

/-- The transfer a request waits for starts (R114). -/
def State.startTransfer (r : TransferRequest) (s : State) : State :=
  match r with
  | .intake => s.startIntake
  | .station => s.startStation
  | .lidder => s.startLidder

/-- TRANSFER_START (R114). -/
def execTransferStart (source : TransferRequest) (s : State) : Host.Outcome State Fault Refusal :=
  s.command (State.startTransfer source)

/-- The size and lid sensors at the station, read as presence rises (R75). -/
def State.readTin (s : State) (cls : TinClass) (lidded : Bool) : State :=
  s.modStation fun st => { st with size := cls, lid := lidded }

/-- The destination's presence sensor rises on a RUNNING transfer (R115). -/
def State.arrive (d : Dest) (cls : TinClass) (lidded : Bool) (s : State) : State :=
  match s.record d with
  | some t =>
    if t.state = .running then
      let s := if d = .dispense then s.readTin cls lidded else s
      (s.setPresent d t.lane true).endArrival d t
    else s
  | none => s

/-- TRANSFER_ARRIVAL (R115). -/
def execTransferArrival (dest : Dest) (cls : TinClass) (lidded : Bool) (s : State) :
    Host.Outcome State Fault Refusal :=
  s.command (State.arrive dest cls lidded)

/-- The timer of a RUNNING transfer expires (R116). -/
def State.expireTransfer (d : Dest) (s : State) : State :=
  match s.record d with
  | some t => if t.state = .running then s.jam d t else s
  | none => s

/-- TRANSFER_TIMEOUT (R116). -/
def execTransferTimeout (dest : Dest) (s : State) : Host.Outcome State Fault Refusal :=
  s.command (State.expireTransfer dest)

/-! ## Bays (R121 to R129) -/

/-- A bay's presence sensor rises: the transfer in flight to it is answered; any other tin is not tracked
(R116, R118, R121, log 35). -/
def State.bayRise (b : BayId) (s : State) : State :=
  let s := s.modBay b fun y => { y with present := true }
  match s.record (.bay b) with
  | some t => s.riseOnRecord (.bay b) t
  | none => s

/-- BAY_PRESENCE_RISE (R121). -/
def execBayPresenceRise (bay : BayId) (s : State) : Host.Outcome State Fault Refusal :=
  s.command (State.bayRise bay)

/-- A bay's presence sensor falls: a spin is cut, a clearing ends (R123, R129). -/
def State.bayFall (b : BayId) (s : State) : State :=
  let s := s.modBay b fun y => { y with present := false }
  match (s.bay b).state with
  | .spinning => s.brakeBay b .clamp
  | .clearing => s.liftBay b
  | .empty | .loading | .clamping | .braking | .unclamping | .ready | .fault | .halted => s

/-- BAY_PRESENCE_FALL (R123, R129). -/
def execBayPresenceFall (bay : BayId) (s : State) : Host.Outcome State Fault Refusal :=
  s.command (State.bayFall bay)

/-- An effect of a bay in one state; in any other the event changes nothing (log 1). -/
def State.whenBay (s : State) (b : BayId) (st : BayState) (f : State → State) : State :=
  if (s.bay b).state = st then f s else s

/-- BAY_BEGIN_OPERATION (R122, R128). -/
def execBayBeginOperation (bay : BayId) (s : State) : Host.Outcome State Fault Refusal :=
  s.command fun s => s.whenBay bay .loading fun s => if s.startsAllowed then s.beginBay bay else s

/-- BAY_CLAMP_CLOSED_RISE (R122, R123). -/
def execBayClampClosedRise (bay : BayId) (s : State) : Host.Outcome State Fault Refusal :=
  s.command fun s =>
    (s.modBay bay fun y => { y with clampClosed := true }).whenBay bay .clamping fun s => s.beginSpin bay

/-- BAY_CLAMP_TIMEOUT (R122, R126). -/
def execBayClampTimeout (bay : BayId) (s : State) : Host.Outcome State Fault Refusal :=
  s.command fun s => s.whenBay bay .clamping fun s => s.bayFault bay .clamp

/-- BAY_SPIN_END: the spin has run its full duration (R123). -/
def execBaySpinEnd (bay : BayId) (s : State) : Host.Outcome State Fault Refusal :=
  s.command fun s => s.whenBay bay .spinning fun s =>
    (s.modBay bay fun y => { y with mixDone := true }).brakeBay bay .spinEnd

/-- BAY_IMBALANCE_TRIP (R124). -/
def execBayImbalanceTrip (bay : BayId) (s : State) : Host.Outcome State Fault Refusal :=
  s.command fun s => s.whenBay bay .spinning fun s => s.brakeBay bay .imbalance

/-- The clamp-closed input falls: a spin is cut, an unclamping is READY (R123, R125). -/
def State.clampFall (b : BayId) (s : State) : State :=
  let s := s.modBay b fun y => { y with clampClosed := false }
  match (s.bay b).state with
  | .spinning => s.brakeBay b .clamp
  | .unclamping => s.bayReady b
  | .empty | .loading | .clamping | .braking | .ready | .fault | .halted | .clearing => s

/-- BAY_CLAMP_CLOSED_FALL (R123, R125). -/
def execBayClampClosedFall (bay : BayId) (s : State) : Host.Outcome State Fault Refusal :=
  s.command (State.clampFall bay)

/-- The end of braking by its cause (R125). -/
def State.endBrake (s : State) (b : BayId) : State :=
  match (s.bay b).cause with
  | some .spinEnd => s.unclamp b
  | some .imbalance => s.bayFault b .imbalance
  | some .clamp => s.bayFault b .clamp
  | none => s

/-- The yoke stands: the end of braking, or the release of the brake a HALTED or CLEARING bay holds (R125, R127, R129,
log 28). -/
def State.brakeEnds (s : State) (b : BayId) : State :=
  match (s.bay b).state with
  | .braking => s.endBrake b
  | .halted | .clearing => s.modBay b fun y => { y with brake := false }
  | .empty | .loading | .clamping | .spinning | .unclamping | .ready | .fault => s

/-- BAY_BRAKE_END (R125, R127, R129). -/
def execBayBrakeEnd (bay : BayId) (s : State) : Host.Outcome State Fault Refusal :=
  s.command fun s => s.brakeEnds bay

/-- BAY_UNCLAMP_TIMEOUT (R125, R126). -/
def execBayUnclampTimeout (bay : BayId) (s : State) : Host.Outcome State Fault Refusal :=
  s.command fun s => s.whenBay bay .unclamping fun s => s.bayFault bay .clamp

/-! ## Lidder (R131 to R137) -/

/-- The lidder reserved for a transfer from the head of its list (R131). -/
def State.reserveLidder (s : State) (t : Transfer) : State :=
  (s.setRecord .lidder (some t)).modLidder fun l => { l with
    state := .receiving, requesters := l.requesters.tail,
    reserved := some { order := t.order, tin := t.tin }, arrived := false, resume := none }

/-- The lidder takes the source at the head of its list, whose transfer starts at once (R114, R131). -/
def State.takeSource (s : State) : State :=
  if s.lidder.state == .idle && !s.lidder.present && (s.record .lidder).isNone && s.startsAllowed then
    match s.lidder.requesters.head? with
    | some (.bay b) =>
      match (s.bay b).tin with
      | some t => (s.reserveLidder (.started (.bay b) t.order t.tin none false none false)).emptyBay b
      | none => s
    | some .dispense => (s.reserveLidder s.station.transfer).sendTin
    | none => s
  else s

/-- LIDDER_TAKE_SOURCE (R131). -/
def execLidderTakeSource (s : State) : Host.Outcome State Fault Refusal := s.command State.takeSource

/-- The lidder begins a placing or a press cycle when starts are allowed (R134, R137, R138). -/
def State.beginLidder (magazineEmpty : Bool) (s : State) : State :=
  if s.startsAllowed then
    match s.lidder.state, s.lidder.resume with
    | .receiving, some .place => s.beginPlacing magazineEmpty
    | .receiving, some .press => s.press false
    | .waitLids, _ => if s.lidder.loaded then s.beginPlacing magazineEmpty else s
    | _, _ => s
  else s

/-- LIDDER_BEGIN_PLACING (R134). -/
def execLidderBeginPlacing (magazineEmpty : Bool) (s : State) : Host.Outcome State Fault Refusal :=
  s.command (State.beginLidder magazineEmpty)

/-- An effect of the lidder in one state; in any other the event changes nothing (log 1). -/
def State.whenLidder (s : State) (st : LidderState) (f : State → State) : State :=
  if s.lidder.state = st then f s else s

/-- LID_PLACED (R136). -/
def execLidPlaced (s : State) : Host.Outcome State Fault Refusal :=
  s.command fun s => s.whenLidder .placing fun s =>
    (s.modLidder fun l => { l with lidOn := true }).press false

/-- LID_PLACE_TIMEOUT (R136). -/
def execLidPlaceTimeout (s : State) : Host.Outcome State Fault Refusal :=
  s.command fun s => s.whenLidder .placing fun s =>
    (s.modLidder fun l => { l with lidOn := false }).seatFault

/-- The seat check after a press (R136). -/
def State.checkSeat (s : State) (seated : Bool) : State :=
  if seated then
    let n := s.lidder.tinOrder
    ((s.setFlag n fun f => { f with lidded := true }).lidDone n).dischargeWait
  else if s.lidder.repressUsed then s.seatFault
  else s.press true

/-- PRESS_COMPLETE (R136). -/
def execPressComplete (seated : Bool) (s : State) : Host.Outcome State Fault Refusal :=
  s.command fun s => s.whenLidder .pressing fun s => s.checkSeat seated

/-- The lidder's presence sensor rises (R116, R118, R132, log 35). -/
def State.lidderRise (s : State) : State :=
  let s := s.modLidder fun l => { l with present := true }
  match s.record .lidder with
  | some t => s.riseOnRecord .lidder t
  | none => s

/-- LIDDER_PRESENCE_RISE (R132). -/
def execLidderPresenceRise (s : State) : Host.Outcome State Fault Refusal := s.command State.lidderRise

/-- LIDDER_PRESENCE_FALL: a clearing ends (R142). -/
def execLidderPresenceFall (s : State) : Host.Outcome State Fault Refusal :=
  s.command fun s =>
    (s.modLidder fun l => { l with present := false }).whenLidder .clearing State.liftLidder

/-! ## Outlet (R140, R141) -/

/-- A lane's presence sensor rises (R116, R118, R140, log 35). -/
def State.laneRise (lane : Lane) (s : State) : State :=
  let s := s.modLane lane fun l => { l with present := true }
  match s.record .outlet with
  | some t => if t.lane = some lane then s.riseOnRecord .outlet t else s
  | none => s

/-- LANE_PRESENCE_RISE (R140). -/
def execLanePresenceRise (lane : Lane) (s : State) : Host.Outcome State Fault Refusal :=
  s.command (State.laneRise lane)

/-- The lift of a tin for collection frees its order COLLECTED, or with its pending end (R20, R141). -/
def State.collect (s : State) (n : Nat) : State :=
  s.freeOrder n (match s.pendingEndOf n with
    | some e => e.reason
    | none => .collected)

/-- The lift of a CHECK tin: it stops being tracked, and binding is retried for an order in the return slot
(R13, R141). -/
def State.liftCheck (s : State) (n : Nat) : State :=
  let s := s.modOrder n fun o => { o with tin := none }
  if s.book.slot = some n then s.retryBinding else s

/-- A lane's presence sensor falls (R141). -/
def State.laneFall (lane : Lane) (s : State) : State :=
  let s := s.modLane lane fun l => { l with present := false }
  let l := s.lanes[lane]
  let empty (s : State) : State := s.modLane lane fun l => { l with state := .empty, tin := none }
  match l.state, l.tin with
  | .collect, some t => empty (s.collect t.order)
  | .check, some t => (empty s).liftCheck t.order
  | .collect, none | .check, none => empty s
  | .clearing, _ => s.liftLane lane
  | .empty, _ | .reserved, _ => s

/-- LANE_PRESENCE_FALL (R141). -/
def execLanePresenceFall (lane : Lane) (s : State) : Host.Outcome State Fault Refusal :=
  s.command (State.laneFall lane)

end Sys2Proof.Machine
end

