-- ==== Sys2Proof/Machine/StationEvents.lean ====
section
/-! DEFINITION. The events of the dispense station, the weigh cell, the carousel and the pump (sections 3.3
and 3.5, chapters 5 and 6). -/

namespace Sys2Proof.Machine

/-! ## Tins on the station (R75, R95, R96) -/

/-- A tin placed for a remake: refused when lidded or of another class, else taken as the order's fresh tin
(R71, R96). -/
def State.placeRemake (s : State) : State :=
  match s.order? s.served with
  | none => s
  | some o =>
    if s.station.lid then s.notify (.liddedTin .dispense)
    else if s.station.size ≠ o.cls then s.notify (.noOrderForTin .dispense s.station.size)
    else
      let id := s.book.nextTin
      let s := s.assignTin o.number
      (s.modStation fun st => { st with
        freshNeeded := true
        tin := some { id := id, cls := o.cls, tare := none, last := none, entryStart := none,
                      lid := st.lid } }).settleTare

/-- The station's presence sensor rises: the transfer in flight to it, an arrival already taken, or a remake's
fresh tin (R75, R96, R116, R118, log 35). -/
def State.stationRise (cls : TinClass) (lidded : Bool) (s : State) : State :=
  let s := (s.readTin cls lidded).modStation fun st => { st with present := true }
  match s.record .dispense with
  | some t => s.riseOnRecord .dispense t
  | none =>
    match s.station.state with
    | .receiving => if s.station.arrivalWaits then s.stationArrival else s
    | .awaitRemakeTin => s.placeRemake
    | _ => s

/-- DISPENSE_PRESENCE_RISE (R75, R96). -/
def execDispensePresenceRise (cls : TinClass) (lidded : Bool) (s : State) : Host.Outcome State Fault Refusal :=
  s.command (State.stationRise cls lidded)

/-- The settle in progress can still end without a reading: its span does not cover 400 ms (R100, log 13). -/
def WeighCell.open (w : WeighCell) : Bool := w.settling && decide (w.span.length < Config.settleSamples)

/-- The station's presence sensor falls: a settle ends without a reading, a clearing ends (R95, R100). -/
def State.stationFall (s : State) : State :=
  let s := s.modStation fun st => { st with present := false }
  if s.weigh.open then s.settleAbsent
  else if s.station.state = .clearing then s.liftCleared
  else s

/-- DISPENSE_PRESENCE_FALL (R95, R100). -/
def execDispensePresenceFall (s : State) : Host.Outcome State Fault Refusal := s.command State.stationFall

/-- The station leaves PAUSED_HOLD and begins its resume point when starts are allowed (R77). -/
def State.resumeStation (s : State) : State :=
  if s.station.state = .pausedHold ∧ s.startsAllowed then
    match s.station.resume with
    | some r => s.resumeAt r
    | none => s
  else s

/-- DISPENSE_RESUME_OPERATION (R77). -/
def execDispenseResumeOperation (s : State) : Host.Outcome State Fault Refusal :=
  s.command State.resumeStation

/-! ## Weigh cell (R98 to R100) -/

/-- Two masses within 20 mg of each other (R99). -/
def withinBand (a b : Nat) : Bool := decide (a ≤ b + Config.settleBand) && decide (b ≤ a + Config.settleBand)

/-- The stable span with one valid sample more: what lies more than 20 mg from it goes, with all older
(R99). -/
def addSample (span : List Nat) (m : Nat) : List Nat := m :: span.takeWhile (withinBand m)

/-- A sample is invalid: marked out of range, above 30,000,000 mg, or taken with the fault line asserted (R98,
log 59). -/
def WeighCell.invalid (w : WeighCell) (m : Nat) (outOfRange : Bool) : Bool :=
  outOfRange || decide (Config.maxMass < m) || w.fault

/-- A sample taken into a settle (R98, R99). -/
def WeighCell.sample (w : WeighCell) (m : Nat) (outOfRange : Bool) : WeighCell :=
  if w.open then { w with span := if w.invalid m outOfRange then [] else addSample w.span m } else w

/-- WEIGH_SAMPLE (R98, R99). -/
def execWeighSample (mass : Nat) (outOfRange : Bool) (s : State) : Host.Outcome State Fault Refusal :=
  s.command fun s => { s with weigh := s.weigh.sample mass outOfRange }

/-- The mean of the span, rounded half up to a whole 10 mg (R99). -/
def settledValue (span : List Nat) : Nat := halfUp span.sum (10 * span.length) * 10

/-- The span covers 400 ms and its reading is handed over (R98, R99). -/
def State.settleReading (s : State) : State :=
  if s.weigh.settling ∧ s.weigh.span.length = Config.settleSamples then
    let v := settledValue s.weigh.span
    ({ s with weigh := { s.weigh with settling := false, span := [], last := some v } } : State).handReading
      (some v)
  else s

/-- SETTLED_READING (R99). -/
def execSettledReading (s : State) : Host.Outcome State Fault Refusal := s.command State.settleReading

/-- SETTLE_WINDOW_TIMEOUT (R100). -/
def execSettleWindowTimeout (s : State) : Host.Outcome State Fault Refusal :=
  s.command fun s => if s.weigh.open then s.settleAbsent else s

/-- The scale fault line changes: an assertion ends a settle without a reading (R98, R100). -/
def State.scaleFault (asserted : Bool) (s : State) : State :=
  let s := { s with weigh := { s.weigh with fault := asserted } }
  if asserted && s.weigh.open then s.settleAbsent else s

/-- SCALE_FAULT_LINE_CHANGE (R98, R100). -/
def execScaleFaultLineChange (asserted : Bool) (s : State) : Host.Outcome State Fault Refusal :=
  s.command (State.scaleFault asserted)

/-! ## Carousel (R54 to R57) -/

/-- The station waits for the move, and not for a homing (log 12). -/
def State.awaitsMove (s : State) : Bool := s.station.state == .moving && !s.station.awaitHoming

/-- The result of a move told to the station (R56, R78). -/
def State.moveResult (s : State) (arrived : Bool) : State :=
  if s.awaitsMove then (if arrived then s.beginPhase else s.fault .lost s.curIndex .none) else s

/-- The drive reaches the target: the passes decide between HOMED and LOST (R56). -/
def State.moveArrived (s : State) : State :=
  match s.positioner.move with
  | some m =>
    let ok := m.passes == m.expected
    ({ s with positioner := { s.positioner with
        state := if ok then .homed else .lost, position := m.target, move := none,
        onMark := false } } : State).moveResult ok
  | none => s

/-- MOVE_ARRIVED (R56). -/
def execMoveArrived (s : State) : Host.Outcome State Fault Refusal := s.command State.moveArrived

/-- The move timer expires (R56). -/
def State.moveExpires (travelled : Nat) (s : State) : State :=
  if s.positioner.state = .moving then
    ({ s with positioner := s.positioner.cutMove travelled } : State).moveResult false
  else s

/-- MOVE_TIMEOUT (R56). -/
def execMoveTimeout (travelled : Nat) (s : State) : Host.Outcome State Fault Refusal :=
  s.command (State.moveExpires travelled)

/-- A pass of the home mark (R54, R55, R57): counted in a move, the reference of a homing, LOST while the
carousel stands HOMED, else disregarded. -/
def Positioner.pass (p : Positioner) : Positioner :=
  match p.state with
  | .moving => { p with move := p.move.map fun m => { m with passes := m.passes + 1 } }
  | .homing => { p with markSeen := true }
  | .homed => { p with state := .lost }
  | .unhomed | .lost | .failed => p

/-- The home sensor reports a pass; one during a stroke halts it (R57, R58, R82). -/
def State.homePass (onMark : Bool) (count : Option Nat) (s : State) : State :=
  let seen := s.positioner.state = .homed
  let s := { s with positioner := { s.positioner.pass with onMark := onMark } }
  if seen ∧ s.station.state = .stroking then s.haltStroke count .lost else s

/-- HOME_PASS (R57, R82). -/
def execHomePass (onMark : Bool) (count : Option Nat) (s : State) : Host.Outcome State Fault Refusal :=
  s.command (State.homePass onMark count)

/-- The carousel has stopped at the place after the mark (R54). -/
def State.homingDone (s : State) : State :=
  if s.positioner.state = .homing then
    ({ s with positioner := { s.positioner with onMark := false } } : State).homed
  else s

/-- HOMING_COMPLETE (R54). -/
def execHomingComplete (s : State) : Host.Outcome State Fault Refusal := s.command State.homingDone

/-- The homing timer expires before the mark is seen (R54). -/
def State.homingExpires (s : State) : State :=
  if s.positioner.state = .homing ∧ !s.positioner.markSeen then
    ({ s with positioner := { s.positioner with state := .failed } } : State).homingEnds false
  else s

/-- HOMING_TIMEOUT (R54). -/
def execHomingTimeout (s : State) : Host.Outcome State Fault Refusal := s.command State.homingExpires

/-! ## Strokes (R50, R81, R82) -/

/-- The pump has completed a stroke with a count below its steps (R81). -/
def CurrentEntry.shortStroke (c : CurrentEntry) (count : Option Nat) : Bool :=
  match count with
  | some k => decide (k < c.strokeSteps)
  | none => false

/-- The pump reports completion: the stroke ends, and the phase goes on or is judged (R81, R94). -/
def State.pumpDone (count : Option Nat) (s : State) : State :=
  if s.station.state = .stroking then
    match s.station.cur with
    | none => s
    | some c =>
      let s := s.endStroke count
      if (s.pendingEndOf s.served).isSome || c.shortStroke count || decide (c.strokes.length ≤ c.ended + 1) then
        s.settleVerdict
      else s.strokeCheck
  else s

/-- PUMP_COMPLETE (R81). -/
def execPumpComplete (count : Option Nat) (s : State) : Host.Outcome State Fault Refusal :=
  s.command (State.pumpDone count)

/-- STROKE_TIMEOUT (R81). -/
def execStrokeTimeout (count : Option Nat) (s : State) : Host.Outcome State Fault Refusal :=
  s.command fun s => if s.station.state = .stroking then s.haltStroke count .stall else s

/-- A position's seated switch opens: told when it is configured, and a stroke drawn on it is halted
(R50, R82). -/
def State.unseat (pos : Position) (count : Option Nat) (s : State) : State :=
  let c := s.canisters[pos]
  let s := s.modCanister pos fun c => { c with seated := false }
  let s := if c.configured then s.notify (.canisterUnseated 0 [pos] c.code) else s
  if s.station.state = .stroking ∧ c.drawing then s.haltStroke count .unseated else s

/-- SEATED_SWITCH_OPEN (R50, R82). -/
def execSeatedSwitchOpen (pos : Position) (count : Option Nat) (s : State) : Host.Outcome State Fault Refusal :=
  s.command (State.unseat pos count)

/-- A position's seated switch closes: a configured one is reported to a stroke waiting on it (R50, R80). -/
def State.reseat (pos : Position) (s : State) : State :=
  let s := s.modCanister pos fun c => { c with seated := true }
  if s.canisters[pos].configured then s.reportPosition pos else s

/-- SEATED_SWITCH_CLOSE (R50, R80). -/
def execSeatedSwitchClose (pos : Position) (s : State) : Host.Outcome State Fault Refusal :=
  s.command (State.reseat pos)

end Sys2Proof.Machine
end

