-- ==== Sys2Proof/Machine/SupplyEvents.lean ====
section
/-! DEFINITION. The supply monitor and the retained memory (chapter 11): the supply warning, and start-up. -/

namespace Sys2Proof.Machine

/-! ## The supply warning (R170) -/

/-- A working bay at the warning: spin cut, brake applied, clamp drive held, HALTED (R127, log 28). -/
def Bay.warned (y : Bay) : Bay :=
  if y.state.atRest then y else { y with state := .halted, cause := none, brake := true, clamp := .stopped }

/-- The station at the warning: a stroke is counted, debited and its entry made PARTIAL, a settle is
abandoned, and the station is HALTED, without a fault (R93). -/
def State.warnStation (s : State) (count : Option Nat) : State :=
  let s := if s.station.state = .stroking then
      match s.station.cur with
      | some c => (s.endStroke count).setEntry c.index .partialShot
      | none => s
    else s
  s.abandonSettle.modStation fun st => { st with state := .halted, finding := none, awaitHoming := false }

/-- The link at the warning: the frame in transmission is cut off and the requests are dropped unanswered
(R157, R160, R169). -/
def Link.warned (l : Link) : Link := { l with rx := [], queue := [], rts := false, tx := .idle }

/-- The conveyor at the warning: every record ended (R118). -/
def Conveyor.warned (c : Conveyor) : Conveyor :=
  { c with toDispense := none, toBayOne := none, toBayTwo := none, toLidder := none, toOutlet := none }

/-- The supply monitor at the warning: a save is abandoned, and the clean mark is set (R170, R176). -/
def Supply.warn (p : Supply) : Supply := { p with warned := true, clean := true, saving := none }

/-- The warning handed to every block; none of them appends a notice (R170, log 37). -/
def State.warn (count : Option Nat) (travelled : Nat) (s : State) : State :=
  let t := s.warnStation count
  { t with
    notices := s.notices
    positioner := s.positioner.stopped travelled
    conveyor := s.conveyor.warned
    bayOne := { s.bayOne.warned with reservation := none }
    bayTwo := { s.bayTwo.warned with reservation := none }
    lidder := { s.lidder.halted with reserved := none }
    link := s.link.warned
    line := { s.line with pendingMode := none }
    supply := s.supply.warn }

/-- SUPPLY_WARNING: one raised again before start-up is disregarded (R170, R171). -/
def execSupplyWarning (count : Option Nat) (travelled : Nat) (s : State) : Host.Outcome State Fault Refusal :=
  if s.supply.warned then .next s else .next (s.warn count travelled)

/-! ## Start-up, step 1: the sensors (R175) -/

/-- Every sensor read (R175 step 1). The sensors leave the clamp-closed inputs where they stand. -/
def State.readSensors (x : Sensors) (s : State) : State :=
  { s with
    intake := { s.intake with present := x.intake, cls := x.intakeClass, lidded := x.intakeLid }
    station := { s.station with present := x.dispense, size := x.dispenseClass, lid := x.dispenseLid }
    bayOne := { s.bayOne with present := x.bayOne, clampClosed := x.clampOne }
    bayTwo := { s.bayTwo with present := x.bayTwo, clampClosed := x.clampTwo }
    lidder := { s.lidder with present := x.lidder }
    lanes := Vector.ofFn fun i : Lane => { s.lanes[i] with present := x.lanes[i] }
    canisters := Vector.ofFn fun p : Position => { s.canisters[p] with seated := x.seated[p] }
    weigh := { s.weigh with fault := x.scaleFault }
    line := { s.line with chainOpen := x.chainOpen }
    positioner := { s.positioner with onMark := x.homeMark }
    link := { s.link with cts := x.cts } }

/-! ## Start-up, step 2: the warm start mapping (R173) and the cold start loading (R174) -/

/-- The order's active plan holds an ACTIVE entry, read after the reset a remake left due (R68, R173). -/
def State.activeEntry (s : State) (o : Order) : Bool :=
  match s.stationPlan o.number with
  | some p => p.entries.any fun e => e.state == .active
  | none => false

/-- The order flag AMOUNT_UNKNOWN set where the last debit is in doubt (R4, R173). -/
def Order.doubted (o : Order) (doubt : Bool) : Order :=
  if doubt then { o with flags := { o.flags with amountUnknown := true } } else o

/-- AMOUNT_UNKNOWN for the orders whose last debit an unclean image may miss (R173). -/
def State.flagUnclean (s : State) : State :=
  if s.supply.clean then s
  else { s with book := { s.book with orders := s.book.orders.map fun o => o.doubted (s.activeEntry o) } }

/-- A lane in the state holds the order's tin and senses it (R143, R173). -/
def State.laneSenses (s : State) (n : Nat) (st : LaneState) : Bool :=
  s.lanes.toList.any fun l => l.state == st && l.present && (l.tin.map TinRef.order) == some n

/-- What the warm start makes of one live order (R173). -/
def State.mapOrder (s : State) (n : Nat) : State :=
  match s.order? n with
  | none => s
  | some o =>
    if o.pendingEnd.isSome then s.reportLift n
    else
      match o.state with
      | .queued | .interrupted => s
      | .bound | .dispensing | .manual | .held | .dispensed | .mixing | .lidding => s.loseTin n
      | .outlet => if s.laneSenses n .collect then s else s.freeOrder n .collected
      | .check | .returning =>
        if s.laneSenses n .check then s else s.modOrder n fun o => { o with tin := none }

/-- A canister at a warm start: a configured one found unseated is unconfirmed (R59). -/
def Canister.kept (c : Canister) : Canister :=
  ({ c with confirmed := c.confirmed && !(c.configured && !c.seated), drawing := false } : Canister).rearmed

/-- A canister loaded from the flash store: unconfirmed, its mark 0, its switch as read (R51, R59, R174). -/
def Canister.loaded (c : Canister) (seated : Bool) : Canister :=
  ({ c with seated := seated, confirmed := false, mark := 0, drawing := false } : Canister).rearmed

/-- Some live order has the tin of the lane (R143). -/
def Book.claims (b : Book) (l : LaneRecord) : Bool :=
  match l.tin with
  | some t => b.orders.any fun o => o.number == t.order && o.tin == some t.tin
  | none => false

/-- A lane with nothing to keep (R143). -/
def LaneRecord.afresh (l : LaneRecord) : LaneRecord :=
  { l with state := if l.present then .clearing else .empty, tin := none }

/-- A lane at a warm start (R143). -/
def LaneRecord.kept (l : LaneRecord) (claimed : Bool) : LaneRecord :=
  match l.state with
  | .collect | .check => if l.present then l else { l with state := .empty, tin := none }
  | .reserved => l.afresh
  | .empty | .clearing => if claimed then { l with state := .empty, tin := none } else l.afresh

/-- The orders mapped one after another in order of admission sequence; the station's plan has then become a
partial plan or was discarded (R68, R173). -/
def State.mapOrders (s : State) : State :=
  (s.book.orders.foldl (fun t o => t.mapOrder o.number) s).modStation fun st =>
    { st with order := none, tin := none, plan := none, cur := none }

/-- The warm start: the tables kept, the orders and lanes mapped (R59, R143, R173). -/
def State.loadWarm (s : State) : State :=
  let s := s.flagUnclean.mapOrders
  { s with
    canisters := Vector.ofFn fun p : Position => s.canisters[p].kept
    lanes := Vector.ofFn fun i : Lane => s.lanes[i].kept (s.book.claims s.lanes[i]) }

/-- The tables a cold start takes: those of a valid flash image, else blank ones (R174). -/
def Supply.coldTables (p : Supply) : Tables := if p.flashValid then p.flash else Tables.blank

/-- The cold start: an empty book, the tables from the flash store, every lane afresh (R174). -/
def State.loadCold (s : State) : State :=
  let t := s.supply.coldTables
  { s with
    book := { orders := [], admission := 0, lastTin := 0, slot := none }
    canisters := Vector.ofFn fun p : Position => t.canisters[p].loaded s.canisters[p].seated
    classes := t.classes
    settings := t.settings
    lidder := { s.lidder with magazines := Lidder.start.magazines }
    lanes := Vector.ofFn fun i : Lane => s.lanes[i].afresh }

/-- Step 2 of start-up with the notices its changes call for, kept apart until step 8 (R172, R175). -/
def State.loadImage (warm : Bool) (s : State) : State × List NoticeBody :=
  let t := { s with notices := [] }
  let t := if warm then t.loadWarm else t.loadCold
  ({ t with notices := s.notices }, t.notices.map Notice.body)

/-! ## Start-up, steps 3 to 8 (R175) -/

/-- A bay at its start: EMPTY, or CLEARING with its brake held until the yoke stands; clamp commanded open (R129, R130,
log 28). -/
def Bay.started (y : Bay) (moment : Nat) : Bay :=
  { Bay.start with
    state := if y.present then .clearing else .empty, brake := y.brakeHeld && y.present, emptySince := moment,
    present := y.present, clampClosed := y.clampClosed }

/-- The start values of the stations, the positioner and the line mode (R21, R59, R97, R111, R130, R143, R156;
step 3). The settle window in force is that of the settings (log 54). -/
def State.startStations (s : State) : State :=
  ({ s with
    intake := s.intake.clearedLine
    station := s.station.clearedLine
    weigh := { settling := false, window := s.settings.window, span := [], fault := s.weigh.fault, last := none }
    conveyor := Conveyor.start
    bayOne := s.bayOne.started (s.moment + 1)
    bayTwo := s.bayTwo.started (s.moment + 1)
    lidder := s.lidder.clearedLine
    positioner := { state := .unhomed, position := 0, move := none, markSeen := false,
                    onMark := s.positioner.onMark }
    line := { mode := .paused, pendingMode := none, latch := false, chainOpen := s.line.chainOpen } }
    : State).tick

/-- The notice queue and the input queue emptied, with the receiver in HUNT and the transmitter IDLE (R169;
step 4). -/
def State.emptyQueues (s : State) : State :=
  { s with notices := [], link := { s.link with rx := [], queue := [], tx := .idle } }

/-- Steps 5 to 7: the clean mark cleared, warned no, STARTED appended and the supply-warned mark set. RTS
follows with what ends the command. -/
def State.announceStart (warm : Bool) (s : State) : State :=
  let clean := warm && s.supply.clean
  ({ s with
    supply := { s.supply with warned := false, clean := false, saving := none }
    link := { s.link with warnedMark := true } } : State).notify (.started warm clean)

/-- An e-stop chain found open is taken as an opening, which sets the latch (R156; step 8). -/
def State.chainAtStart (s : State) : State := if s.line.chainOpen then s.openChain none 0 else s

/-- A start-up taken whole (R175). -/
def State.startUp (x : Sensors) (warm : Bool) (s : State) : State :=
  let (t, changes) := (s.readSensors x).loadImage warm
  (changes.foldl State.notify (t.startStations.emptyQueues.announceStart warm)).chainAtStart

/-- The steps of start-up that a supply warning let happen before step 5 (R175, log 8). -/
def State.startUpSteps (x : Sensors) (warm : Bool) (s : State) : Nat → State
  | 0 => s
  | 1 => s.readSensors x
  | 2 => ((s.readSensors x).loadImage warm).1
  | 3 => ((s.readSensors x).loadImage warm).1.startStations
  | _ => ((s.readSensors x).loadImage warm).1.startStations.emptyQueues

/-- A start-up abandoned by a supply warning: warned is yes, and the clean mark stays as it was (R175,
log 8). -/
def State.abandonStart (s : State) : State :=
  { s with
    link := s.link.warned
    supply := { s.supply with warned := true, saving := none } }

/-- START_UP: taken whole, or abandoned by a warning after some of its steps (R172 to R175). -/
def execStartUp (sensors : Sensors) (checksumMatches : Bool) (stepsBeforeWarning : Option (Fin 5)) (s : State) :
    Host.Outcome State Fault Refusal :=
  match stepsBeforeWarning with
  | none => .next (s.startUp sensors checksumMatches).finish
  | some k => .next (s.startUpSteps sensors checksumMatches k.val).abandonStart

end Sys2Proof.Machine
end

