-- ==== Sys2Proof/Machine/TableCommands.lean ====
section
/-! DEFINITION. The requests of the canister table, the class table, the lid magazines, the settings and the
flash store (R41 to R46, R52, R110, R135, R167, R176). -/

namespace Sys2Proof.Machine

/-! ## Canister table (R41 to R46) -/

/-- The request changes the calibration the position holds (R42, R43). -/
def CanisterFields.changes (f : CanisterFields) (c : Canister) : Bool :=
  f.code != c.code || f.role != c.role || f.d != c.d || f.rho != c.rho || f.c != c.c || f.m != c.m

/-- The request is refused while the position is in use (R43). -/
def State.setRefused (s : State) (f : CanisterFields) : Bool :=
  s.canisters[f.pos].drawing || (s.namedByPlan f.pos && f.changes s.canisters[f.pos])

/-- Another position is configured with the code and role (R41 check 4). -/
def State.roleTaken (s : State) (f : CanisterFields) : Bool :=
  (List.finRange 24).any fun p =>
    p != f.pos && s.canisters[p].configured && s.canisters[p].code == f.code && s.canisters[p].role == f.role

/-- The calibration mark advanced, wrapping at 32 bits (section 3.1). -/
def advanceMark (mark : Nat) : Nat := (mark + 1) % 4294967296

/-- The record a CANISTER_SET leaves (R42). -/
def CanisterFields.record (f : CanisterFields) (old : Canister) : Canister :=
  ({ code := f.code, role := f.role, d := f.d, rho := f.rho, c := f.c, m := f.m, capacity := f.capacity,
     floor := f.floor, low := f.low, level := min f.level (f.capacity * 1000000), seated := old.seated,
     confirmed := true, lowArmed := false, dryArmed := false,
     mark := if !old.configured || f.changes old then advanceMark old.mark else old.mark,
     drawing := old.drawing } : Canister).rearmed

/-- A change of a position's record, reported to the station when it changes the answer it waits on
(R42, R44, R80). -/
def State.changePosition (s : State) (p : Position) (c : Canister) : State :=
  let t := s.modCanister p fun _ => c
  if t.waitingFinding p = s.waitingFinding p then t else t.reportPosition p

/-- The answer to CANISTER_SET (R41, R42). -/
def State.answerCanisterSet (p : List Byte) (s : State) : Answer :=
  if p.length ≠ 31 then s.refuse .badLength
  else
    match readCanister p with
    | none => s.refuse .badField
    | some f =>
      if s.setRefused f then s.refuse .inUse
      else if s.roleTaken f then s.refuse .roleTaken
      else
        let c := f.record s.canisters[f.pos]
        { state := s.changePosition f.pos c
          status := if f.capacity * 1000000 < f.level then .adjusted else .ok
          body := .canister f.pos c c.usable c.condition }

/-- CANISTER_SET (R41, R42). -/
def execCanisterSet (tag : Byte) (payload : List Byte) (s : State) : Host.Outcome State Fault Refusal :=
  s.requestCommand 0x20 tag payload (State.answerCanisterSet payload)

/-- The record CANISTER_QUERY carries: zeros for an unconfigured position (R46). -/
def Canister.reported (c : Canister) : Canister := if c.configured then c else {}

/-- The answer to CANISTER_QUERY (R46). An unconfigured position is answered with its number and zeros (log 50). -/
def State.answerCanisterQuery (p : List Byte) (s : State) : Answer :=
  if p.length ≠ 1 then s.refuse .badLength
  else
    match readPosition (Bytes.field p 0 1) with
    | none => s.refuse .badField
    | some pos =>
      let c := s.canisters[pos]
      { state := s, status := .ok
        body :=
          if c.configured then
            .canisterQuery pos c c.usable c.condition (c.finding c.code c.m) (s.inUse pos)
          else .canisterQuery pos {} 0 .ok .ready false }

/-- CANISTER_QUERY (R46). -/
def execCanisterQuery (tag : Byte) (payload : List Byte) (s : State) : Host.Outcome State Fault Refusal :=
  s.requestCommand 0x21 tag payload (State.answerCanisterQuery payload)

/-- The record a refill leaves (R44). -/
def Canister.refilled (c : Canister) (added : Nat) : Canister :=
  ({ c with level := min (c.level + added * 1000) (c.capacity * 1000000), confirmed := true }
    : Canister).rearmed

/-- The answer to CANISTER_REFILL (R44; layout log 5: position, added volume in 4 bytes). -/
def State.answerRefill (p : List Byte) (s : State) : Answer :=
  if p.length ≠ 5 then s.refuse .badLength
  else
    let added := Bytes.field p 1 4
    match readPosition (Bytes.field p 0 1) with
    | none => s.refuse .badField
    | some pos =>
      let c := s.canisters[pos]
      if added = 0 ∨ 5000000 < added then s.refuse .badField
      else if !c.configured then s.refuse .wrongState
      else
        let c' := c.refilled added
        { state := s.changePosition pos c'
          status := if c.capacity * 1000000 < c.level + added * 1000 then .adjusted else .ok
          body := .level c'.level c'.usable c'.condition }

/-- CANISTER_REFILL (R44). -/
def execCanisterRefill (tag : Byte) (payload : List Byte) (s : State) : Host.Outcome State Fault Refusal :=
  s.requestCommand 0x22 tag payload (State.answerRefill payload)

/-- The record of a cleared position (R45). -/
def Canister.cleared (c : Canister) : Canister :=
  if c.configured then { seated := c.seated, mark := advanceMark c.mark } else c

/-- The answer to CANISTER_CLEAR (R45; layout log 5: position). -/
def State.answerCanisterClear (p : List Byte) (s : State) : Answer :=
  if p.length ≠ 1 then s.refuse .badLength
  else
    match readPosition (Bytes.field p 0 1) with
    | none => s.refuse .badField
    | some pos => if s.inUse pos then s.refuse .inUse else (s.modCanister pos Canister.cleared).accept

/-- CANISTER_CLEAR (R45). -/
def execCanisterClear (tag : Byte) (payload : List Byte) (s : State) : Host.Outcome State Fault Refusal :=
  s.requestCommand 0x23 tag payload (State.answerCanisterClear payload)

/-! ## Class table (R52) -/

/-- The answer to CLASS_SET (R52). -/
def State.answerClassSet (p : List Byte) (s : State) : Answer :=
  if p.length ≠ 5 then s.refuse .badLength
  else
    match readClass p with
    | none => s.refuse .badField
    | some (i, e) => ({ s with classes := s.classes.set i e } : State).accept

/-- CLASS_SET (R52). -/
def execClassSet (tag : Byte) (payload : List Byte) (s : State) : Host.Outcome State Fault Refusal :=
  s.requestCommand 0x24 tag payload (State.answerClassSet payload)

/-- The answer to CLASS_QUERY (R52). -/
def State.answerClassQuery (p : List Byte) (s : State) : Answer :=
  s.bare p fun s => { state := s, status := .ok, body := .classes s.classes }

/-- CLASS_QUERY (R52). -/
def execClassQuery (tag : Byte) (payload : List Byte) (s : State) : Host.Outcome State Fault Refusal :=
  s.requestCommand 0x25 tag payload (State.answerClassQuery payload)

/-! ## Lids (R134, R135) -/

/-- The lids of a class counted anew; a lidder that waits for that class has been answered (R134, R135). -/
def Lidder.load (l : Lidder) (cls : TinClass) (n : Nat) : Lidder :=
  { l with
    magazines := l.magazines.set cls n
    loaded := l.loaded || (l.state == .waitLids && (l.tin.map LidderTin.cls) == some cls) }

/-- The answer to LIDS_LOADED (R135; layout log 5: class, count). -/
def State.answerLids (p : List Byte) (s : State) : Answer :=
  if p.length ≠ 2 then s.refuse .badLength
  else
    match TinClass.ofCode (Bytes.field p 0 1) with
    | none => s.refuse .badField
    | some cls =>
      let n := Bytes.field p 1 1
      let t := s.modLidder fun l => l.load cls (min n Config.maxLids)
      { state := t, status := if Config.maxLids < n then .adjusted else .ok, body := .lids t.lidder.magazines }

/-- LIDS_LOADED (R135). -/
def execLidsLoaded (tag : Byte) (payload : List Byte) (s : State) : Host.Outcome State Fault Refusal :=
  s.requestCommand 0x30 tag payload (State.answerLids payload)

/-! ## Settings (R110, R167) -/

/-- The answer to SETTINGS_SET (R110, R123, R167). -/
def State.answerSettingsSet (p : List Byte) (s : State) : Answer :=
  if p.length ≠ 14 then s.refuse .badLength
  else
    let st := (readSettings p).clamped
    { state := { s with settings := st }, status := if st = readSettings p then .ok else .adjusted,
      body := .settings st }

/-- SETTINGS_SET (R167). -/
def execSettingsSet (tag : Byte) (payload : List Byte) (s : State) : Host.Outcome State Fault Refusal :=
  s.requestCommand 0x50 tag payload (State.answerSettingsSet payload)

/-- The answer to SETTINGS_QUERY (R167). -/
def State.answerSettingsQuery (p : List Byte) (s : State) : Answer :=
  s.bare p fun s => { state := s, status := .ok, body := .settings s.settings }

/-- SETTINGS_QUERY (R167). -/
def execSettingsQuery (tag : Byte) (payload : List Byte) (s : State) : Host.Outcome State Fault Refusal :=
  s.requestCommand 0x51 tag payload (State.answerSettingsQuery payload)

/-! ## Flash store (R176) -/

/-- The three tables as they stand (R176). -/
def State.tables (s : State) : Tables :=
  { canisters := s.canisters, classes := s.classes, settings := s.settings }

/-- The answer to STORE_SAVE (R176): the copy is taken and the flash image is invalid while it is written. -/
def State.answerSave (p : List Byte) (s : State) : Answer :=
  s.bare p fun s =>
    if s.supply.saving.isSome then s.refuse .storeBusy
    else
      ({ s with supply := { s.supply with saving := some s.tables, flashValid := false } } : State).accept

/-- STORE_SAVE (R176). -/
def execStoreSave (tag : Byte) (payload : List Byte) (s : State) : Host.Outcome State Fault Refusal :=
  s.requestCommand 0x60 tag payload (State.answerSave payload)

/-- The end of a save: the image is valid when every write verified, and STORE_SAVED tells (R176). -/
def State.endSave (verified : Bool) (s : State) : State :=
  match s.supply.saving with
  | none => s
  | some t =>
    ({ s with supply := { s.supply with
        saving := none, flash := t, flashValid := verified } } : State).notify (.storeSaved verified)

/-- STORE_SAVE_END (R176). -/
def execStoreSaveEnd (verified : Bool) (s : State) : Host.Outcome State Fault Refusal :=
  s.command (State.endSave verified)

end Sys2Proof.Machine
end

