-- ==== Sys2Proof/Machine/Dispatch.lean ====
section
/-! DEFINITION. The dispatch: one arm per command, each a direct call of its meaning. -/

namespace Sys2Proof.Machine

/-- The effect of a command on everything but the queue. -/
def exec (i : Instr) (s : State) : Host.Outcome State Fault Refusal :=
  match i with
  | .ident tag payload => Sys2Proof.Machine.execIdent tag payload s
  | .status tag payload => Sys2Proof.Machine.execStatus tag payload s
  | .orderSubmit tag payload => Sys2Proof.Machine.execOrderSubmit tag payload s
  | .orderQuery tag payload => Sys2Proof.Machine.execOrderQuery tag payload s
  | .orderCancel tag payload => Sys2Proof.Machine.execOrderCancel tag payload s
  | .orderCorrect tag payload => Sys2Proof.Machine.execOrderCorrect tag payload s
  | .orderApprove tag payload => Sys2Proof.Machine.execOrderApprove tag payload s
  | .orderResume tag payload => Sys2Proof.Machine.execOrderResume tag payload s
  | .resolveRetryShot tag payload => Sys2Proof.Machine.execResolveRetryShot tag payload s
  | .resolveSkipShot tag payload => Sys2Proof.Machine.execResolveSkipShot tag payload s
  | .resolveAccept tag payload => Sys2Proof.Machine.execResolveAccept tag payload s
  | .resolveRetry tag payload => Sys2Proof.Machine.execResolveRetry tag payload s
  | .resolveConfirm tag payload => Sys2Proof.Machine.execResolveConfirm tag payload s
  | .resolvePass tag payload => Sys2Proof.Machine.execResolvePass tag payload s
  | .resolveScrap tag payload => Sys2Proof.Machine.execResolveScrap tag payload s
  | .resolveRemake tag payload => Sys2Proof.Machine.execResolveRemake tag payload s
  | .resolveCancel tag payload => Sys2Proof.Machine.execResolveCancel tag payload s
  | .resolveRelease tag payload => Sys2Proof.Machine.execResolveRelease tag payload s
  | .manualDone tag payload => Sys2Proof.Machine.execManualDone tag payload s
  | .manualSkip tag payload => Sys2Proof.Machine.execManualSkip tag payload s
  | .planPreview tag payload => Sys2Proof.Machine.execPlanPreview tag payload s
  | .canisterSet tag payload => Sys2Proof.Machine.execCanisterSet tag payload s
  | .canisterQuery tag payload => Sys2Proof.Machine.execCanisterQuery tag payload s
  | .canisterRefill tag payload => Sys2Proof.Machine.execCanisterRefill tag payload s
  | .canisterClear tag payload => Sys2Proof.Machine.execCanisterClear tag payload s
  | .classSet tag payload => Sys2Proof.Machine.execClassSet tag payload s
  | .classQuery tag payload => Sys2Proof.Machine.execClassQuery tag payload s
  | .lidsLoaded tag payload => Sys2Proof.Machine.execLidsLoaded tag payload s
  | .lineRun tag payload => Sys2Proof.Machine.execLineRun tag payload s
  | .linePause tag payload => Sys2Proof.Machine.execLinePause tag payload s
  | .lineService tag payload => Sys2Proof.Machine.execLineService tag payload s
  | .stopReset tag payload => Sys2Proof.Machine.execStopReset tag payload s
  | .clearLine tag payload => Sys2Proof.Machine.execClearLine tag payload s
  | .settingsSet tag payload => Sys2Proof.Machine.execSettingsSet tag payload s
  | .settingsQuery tag payload => Sys2Proof.Machine.execSettingsQuery tag payload s
  | .storeSave tag payload => Sys2Proof.Machine.execStoreSave tag payload s
  | .unknownKindRequest kind tag payload => Sys2Proof.Machine.execUnknownKindRequest kind tag payload s
  | .frameReceived bytes => Sys2Proof.Machine.execFrameReceived bytes s
  | .frameGapTimeout bytes => Sys2Proof.Machine.execFrameGapTimeout bytes s
  | .ctsChange asserted => Sys2Proof.Machine.execCtsChange asserted s
  | .transmitEnd => Sys2Proof.Machine.execTransmitEnd s
  | .pauseComplete => Sys2Proof.Machine.execPauseComplete s
  | .estopChainOpen count travelled => Sys2Proof.Machine.execEstopChainOpen count travelled s
  | .estopChainClose => Sys2Proof.Machine.execEstopChainClose s
  | .intakeTinPlaced cls lidded => Sys2Proof.Machine.execIntakeTinPlaced cls lidded s
  | .intakeBindRetry => Sys2Proof.Machine.execIntakeBindRetry s
  | .intakeTinLifted => Sys2Proof.Machine.execIntakeTinLifted s
  | .transferStart source => Sys2Proof.Machine.execTransferStart source s
  | .transferArrival dest cls lidded => Sys2Proof.Machine.execTransferArrival dest cls lidded s
  | .transferTimeout dest => Sys2Proof.Machine.execTransferTimeout dest s
  | .dispensePresenceRise cls lidded => Sys2Proof.Machine.execDispensePresenceRise cls lidded s
  | .dispensePresenceFall => Sys2Proof.Machine.execDispensePresenceFall s
  | .weighSample mass outOfRange => Sys2Proof.Machine.execWeighSample mass outOfRange s
  | .settledReading => Sys2Proof.Machine.execSettledReading s
  | .settleWindowTimeout => Sys2Proof.Machine.execSettleWindowTimeout s
  | .scaleFaultLineChange asserted => Sys2Proof.Machine.execScaleFaultLineChange asserted s
  | .dispenseResumeOperation => Sys2Proof.Machine.execDispenseResumeOperation s
  | .moveArrived => Sys2Proof.Machine.execMoveArrived s
  | .moveTimeout travelled => Sys2Proof.Machine.execMoveTimeout travelled s
  | .homePass onMark count => Sys2Proof.Machine.execHomePass onMark count s
  | .homingComplete => Sys2Proof.Machine.execHomingComplete s
  | .homingTimeout => Sys2Proof.Machine.execHomingTimeout s
  | .pumpComplete count => Sys2Proof.Machine.execPumpComplete count s
  | .strokeTimeout count => Sys2Proof.Machine.execStrokeTimeout count s
  | .seatedSwitchOpen pos count => Sys2Proof.Machine.execSeatedSwitchOpen pos count s
  | .seatedSwitchClose pos => Sys2Proof.Machine.execSeatedSwitchClose pos s
  | .bayPresenceRise bay => Sys2Proof.Machine.execBayPresenceRise bay s
  | .bayPresenceFall bay => Sys2Proof.Machine.execBayPresenceFall bay s
  | .bayBeginOperation bay => Sys2Proof.Machine.execBayBeginOperation bay s
  | .bayClampClosedRise bay => Sys2Proof.Machine.execBayClampClosedRise bay s
  | .bayClampTimeout bay => Sys2Proof.Machine.execBayClampTimeout bay s
  | .baySpinEnd bay => Sys2Proof.Machine.execBaySpinEnd bay s
  | .bayImbalanceTrip bay => Sys2Proof.Machine.execBayImbalanceTrip bay s
  | .bayClampClosedFall bay => Sys2Proof.Machine.execBayClampClosedFall bay s
  | .bayBrakeEnd bay => Sys2Proof.Machine.execBayBrakeEnd bay s
  | .bayUnclampTimeout bay => Sys2Proof.Machine.execBayUnclampTimeout bay s
  | .lidderTakeSource => Sys2Proof.Machine.execLidderTakeSource s
  | .lidderBeginPlacing magazineEmpty => Sys2Proof.Machine.execLidderBeginPlacing magazineEmpty s
  | .lidPlaced => Sys2Proof.Machine.execLidPlaced s
  | .lidPlaceTimeout => Sys2Proof.Machine.execLidPlaceTimeout s
  | .pressComplete seated => Sys2Proof.Machine.execPressComplete seated s
  | .lidderPresenceRise => Sys2Proof.Machine.execLidderPresenceRise s
  | .lidderPresenceFall => Sys2Proof.Machine.execLidderPresenceFall s
  | .lanePresenceRise lane => Sys2Proof.Machine.execLanePresenceRise lane s
  | .lanePresenceFall lane => Sys2Proof.Machine.execLanePresenceFall lane s
  | .supplyWarning count travelled => Sys2Proof.Machine.execSupplyWarning count travelled s
  | .startUp sensors checksumMatches stepsBeforeWarning => Sys2Proof.Machine.execStartUp sensors checksumMatches stepsBeforeWarning s
  | .storeSaveEnd verified => Sys2Proof.Machine.execStoreSaveEnd verified s
  | .lengthByteOver240 bytes => Sys2Proof.Machine.execLengthByteOver240 bytes s

end Sys2Proof.Machine
end

