-- ==== Sys2Proof/WellFormed.lean ====
section
/-! DEFINITION. Which commands can be given: what the line, the sensors and the drives can show. -/

namespace Sys2Proof

/-- A payload fits a frame (R158). -/
def payloadFits (payload : List Byte) : Bool := payload.length ≤ 240

/-- The bytes hold a start byte whose length byte exceeds 240 (R159). -/
def hasOverlongLength : List Byte → Bool
  | a :: b :: rest => (a == 0xA5 && decide (240 < b.toNat)) || hasOverlongLength (b :: rest)
  | _ => false

/-- What the line, the sensors and the drives can show in each command. A sample in range is in whole steps of 10 mg; one
above 30,000,000 mg can be given, with or without the cell's mark, and is invalid (R98, log 59). -/
def Instr.wellFormed : Instr → Bool
  | .ident _ p | .status _ p | .orderSubmit _ p | .orderQuery _ p | .orderCancel _ p | .orderCorrect _ p
  | .orderApprove _ p | .orderResume _ p | .planPreview _ p | .canisterSet _ p | .canisterQuery _ p
  | .canisterRefill _ p | .canisterClear _ p | .classSet _ p | .classQuery _ p | .lidsLoaded _ p
  | .lineRun _ p | .linePause _ p | .lineService _ p | .stopReset _ p | .clearLine _ p
  | .settingsSet _ p | .settingsQuery _ p | .storeSave _ p => payloadFits p
  | .resolveRetryShot _ p => payloadFits p && Action.retryShot.owns p
  | .resolveSkipShot _ p => payloadFits p && Action.skipShot.owns p
  | .resolveAccept _ p => payloadFits p && Action.accept.owns p
  | .resolveRetry _ p => payloadFits p && Action.retry.owns p
  | .resolveConfirm _ p => payloadFits p && Action.confirm.owns p
  | .resolvePass _ p => payloadFits p && Action.pass.owns p
  | .resolveScrap _ p => payloadFits p && Action.scrap.owns p
  | .resolveRemake _ p => payloadFits p && Action.remake.owns p
  | .resolveCancel _ p => payloadFits p && Action.cancel.owns p
  | .resolveRelease _ p => payloadFits p && Action.release.owns p
  | .manualDone _ p => payloadFits p && !(manualSkipFlag p)
  | .manualSkip _ p => payloadFits p && (p.length != manualLength || manualSkipFlag p)
  | .unknownKindRequest k _ p => payloadFits p && !(catalogue.contains k)
  | .frameReceived bs => !bs.isEmpty
  | .lengthByteOver240 bs => hasOverlongLength bs
  | .weighSample m out => out || m % 10 == 0
  | .moveTimeout t => decide (t ≤ 12)
  | .estopChainOpen _ t => decide (t ≤ 12)
  | .supplyWarning _ t => decide (t ≤ 12)
  | .frameGapTimeout _ | .ctsChange _ | .transmitEnd | .pauseComplete | .estopChainClose
  | .intakeTinPlaced _ _ | .intakeBindRetry | .intakeTinLifted | .transferStart _ | .transferArrival _ _ _
  | .transferTimeout _ | .dispensePresenceRise _ _ | .dispensePresenceFall | .settledReading
  | .settleWindowTimeout | .scaleFaultLineChange _ | .dispenseResumeOperation | .moveArrived | .homePass _ _
  | .homingComplete | .homingTimeout | .pumpComplete _ | .strokeTimeout _ | .seatedSwitchOpen _ _
  | .seatedSwitchClose _ | .bayPresenceRise _ | .bayPresenceFall _ | .bayBeginOperation _
  | .bayClampClosedRise _ | .bayClampTimeout _ | .baySpinEnd _ | .bayImbalanceTrip _ | .bayClampClosedFall _
  | .bayBrakeEnd _ | .bayUnclampTimeout _ | .lidderTakeSource | .lidderBeginPlacing _ | .lidPlaced
  | .lidPlaceTimeout | .pressComplete _ | .lidderPresenceRise | .lidderPresenceFall | .lanePresenceRise _
  | .lanePresenceFall _ | .startUp _ _ _ | .storeSaveEnd _ => true

end Sys2Proof
end

