-- ==== Sys2Proof/Safety.lean ====
section
/-! DEFINITION. The words the statements use: what a request finds and leaves, and the invariants every command
keeps. -/

namespace Sys2Proof

/-- The row of each action of RESOLVE. -/
def Action.row (a : Action) (tag : Byte) (payload : List Byte) : Instr :=
  match a with
  | .retryShot => .resolveRetryShot tag payload
  | .skipShot => .resolveSkipShot tag payload
  | .accept => .resolveAccept tag payload
  | .retry => .resolveRetry tag payload
  | .confirm => .resolveConfirm tag payload
  | .pass => .resolvePass tag payload
  | .scrap => .resolveScrap tag payload
  | .remake => .resolveRemake tag payload
  | .cancel => .resolveCancel tag payload
  | .release => .resolveRelease tag payload

namespace Machine

/-! ## Requests -/

/-- The controller works, and the request is the one to be taken: `w` is the state in which it waits as the
oldest request without a reply (R160, R171, log 4). -/
abbrev State.Takes (s w : State) (kind tag : Byte) (payload : List Byte) : Prop :=
  s.supply.warned = false ∧ s.offer kind tag payload = some w

/-- The state with the reply composed on the oldest request without one: the reply kind, the tag, the status,
the line flags as they stand now, and the body (R161). -/
def State.answered (u : State) (kind tag : Byte) (st : Status) (body : ReplyBody) : State :=
  let r : Reply := { kind := replyKind kind, tag := tag, status := st, flags := u.lineFlags, body := body }
  { u with link := { u.link with queue := putReply r u.link.queue } }

/-- A RESOLVE payload that names an order and an action, with the live order and its fault record, which
allows the action (R154). -/
abbrev State.Resolves (w : State) (payload : List Byte) (a : Action) (o : Order) (f : FaultRecord) : Prop :=
  payload.length = 3 ∧ Action.ofCode (Bytes.field payload 2 1) = some a ∧
    w.order? (Bytes.field payload 0 2) = some o ∧ o.fault = some f ∧ f.allowed.contains a = true

/-! ## Invariants -/

/-- The line mode unit: the latch is set exactly in STOPPED, STOPPED has no pending request, and a working
controller with an open chain is STOPPED (R144, R148, R149, R156). -/
def State.LineInv (s : State) : Prop :=
  (s.line.latch = true ↔ s.line.mode = .stopped) ∧
  (s.line.mode = .stopped → s.line.pendingMode = none) ∧
  (s.supply.warned = false → s.line.chainOpen = true → s.line.mode = .stopped)

/-- The order book: at most 32 live orders, no two with one number (R1). -/
def State.BookInv (s : State) : Prop :=
  s.book.orders.length ≤ 32 ∧ (s.book.orders.map Order.number).Nodup

/-- The queues: at most 4 requests and at most 64 notices (R160, R163). -/
def State.QueueInv (s : State) : Prop := s.link.queue.length ≤ 4 ∧ s.notices.length ≤ 64

/-- Settings within their ranges (R110, R123). -/
def Settings.InRange (st : Settings) : Prop :=
  (10 ≤ st.tolAbs ∧ st.tolAbs ≤ 2000) ∧ (5 ≤ st.tolPm ∧ st.tolPm ≤ 100) ∧
  (500 ≤ st.window ∧ st.window ≤ 5000) ∧ (20 ≤ st.standard ∧ st.standard ≤ 600) ∧
  (20 ≤ st.long ∧ st.long ≤ 600) ∧ (20 ≤ st.gentle ∧ st.gentle ≤ 600) ∧ (20 ≤ st.short ∧ st.short ≤ 600)

/-- Tables whose canisters hold at most their capacity and whose settings are in range (R40, R110, R123). -/
def Tables.Sound (t : Tables) : Prop :=
  (∀ p : Position, t.canisters[p].configured = true →
    t.canisters[p].level ≤ t.canisters[p].capacity * 1000000) ∧ t.settings.InRange

/-- The tables in use, in the flash store and in a save in flight are sound, and no magazine counts more than
80 lids (R40, R110, R123, R135, R176). -/
def State.TablesInv (s : State) : Prop :=
  s.tables.Sound ∧ s.supply.flash.Sound ∧ (∀ t, s.supply.saving = some t → t.Sound) ∧
  ∀ cls : TinClass, s.lidder.magazines.count cls ≤ 80

end Machine

end Sys2Proof
end

