-- ==== Sys2Proof/Certificates/Slice0/Obligations.lean ====
section
/-! DEFINITION. The statements about the controller, each with the rules it formalises. -/

open Sys2Proof Sys2Proof.Machine

/-! ## Steps, starts and the end of every command -/

/-- A step runs the command at the front of the queue on the state with the queue's rest, and idles on an empty
queue (the model's own queue: logs 1 and 2). -/
def Obligations.StepRunsTheFrontCommand : Prop :=
  (∀ (c : Instr) (rest : List Instr) (s : State), s.pending = c :: rest →
    step s = exec c { s with pending := rest }) ∧
  (∀ s : State, s.pending = [] → step s = .next s)

/-- Every command of the table is answered with a next state, and none touches the queue of commands. -/
def Obligations.EveryCommandAnswersANextState : Prop :=
  ∀ (c : Instr) (s : State), ∃ t, exec c s = .next t ∧ t.pending = s.pending

/-- While warned is yes nothing is taken and nothing starts: only START_UP changes the state (R171). -/
def Obligations.WarnedControllerOnlyStartsUp : Prop :=
  ∀ (c : Instr) (s : State), s.supply.warned = true →
    (∀ x m k, c ≠ .startUp x m k) → exec c s = .next s

/-- What a cold start without a valid flash image leaves (R59, R97, R111, R130, R143, R156, R169, R174): the
values the spec gives for reset. -/
def Obligations.ResetIsAColdStart : Prop :=
  State.reset.book = { orders := [], admission := 0, lastTin := 0, slot := none } ∧
  (∀ p : Position, State.reset.canisters[p].configured = false ∧ State.reset.canisters[p].level = 0 ∧
    State.reset.canisters[p].mark = 0 ∧ State.reset.canisters[p].confirmed = false) ∧
  (∀ i : Fin 6, State.reset.classes[i].enabled = false ∧ State.reset.classes[i].first = 1 ∧
    State.reset.classes[i].last = 1) ∧
  State.reset.settings = { tolAbs := 50, tolPm := 20, window := 1500, standard := 90, long := 180,
                           gentle := 120, short := 45 } ∧
  State.reset.positioner.state = .unhomed ∧ State.reset.positioner.position = 0 ∧
  State.reset.station.state = .idle ∧ State.reset.weigh.settling = false ∧ State.reset.weigh.last = none ∧
  State.reset.bayOne.state = .empty ∧ State.reset.bayTwo.state = .empty ∧ State.reset.lidder.state = .idle ∧
  (∀ cls : TinClass, State.reset.lidder.magazines.count cls = 0) ∧
  (∀ l : Lane, State.reset.lanes[l].state = .empty) ∧
  State.reset.line.mode = .paused ∧ State.reset.line.pendingMode = none ∧
  State.reset.supply.warned = false ∧ State.reset.supply.clean = false ∧ State.reset.supply.saving = none ∧
  State.reset.notices = [{ body := .started false false, count := 1 }] ∧
  State.reset.link.queue = [] ∧ State.reset.link.rts = true ∧ State.reset.link.warnedMark = true

/-- What ends every command touches the station only to put off a waiting stroke, the conveyor's records only to let
HALTED transfers run, its outstanding requests not at all, and beside them only the link and the notice queue; and
starts are allowed exactly in RUNNING with no PAUSE pending and fewer than 48 ATTENTION and FAULT entries queued
(R77, R118, R144, R157, R162, R165). -/
def Obligations.EndOfCommandFrame : Prop :=
  ∀ s : State,
    { s.finish with link := s.link, notices := s.notices, station := s.station, conveyor := s.conveyor } = s ∧
    (¬(s.station.state = .waitCanister ∧ s.startsAllowed = false) → s.finish.station = s.station) ∧
    (s.station.state = .waitCanister → s.startsAllowed = false →
      s.finish.station = { s.station with
        state := .pausedHold, resume := some .strokeCheck, finding := none }) ∧
    (s.finish.startsAllowed = false → s.finish.conveyor = s.conveyor) ∧
    (∀ d t, s.finish.startsAllowed = true → s.record d = some t → t.state = .halted → t.retried = true →
      s.finish.record d = some { t with state := .running, retried := false }) ∧
    (∀ d t, s.record d = some t → (t.state ≠ .halted ∨ t.retried = false) → s.finish.record d = some t) ∧
    (∀ d, s.record d = none → s.finish.record d = none) ∧
    (s.finish.conveyor.intakeRequest = s.conveyor.intakeRequest ∧
      s.finish.conveyor.stationRequest = s.conveyor.stationRequest ∧
      s.finish.conveyor.outletRequest = s.conveyor.outletRequest) ∧
    (s.startsAllowed = true ↔ s.line.mode = .running ∧ s.line.pendingMode ≠ some .pause ∧
      (s.notices.filter fun n => n.body.cls ≠ .progress).length < 48) ∧
    s.finish.link.queue = s.link.queue ∧ s.finish.link.rx = s.link.rx ∧ s.finish.link.cts = s.link.cts ∧
    s.finish.link.rts = (!s.supply.warned && decide (s.link.queue.length < 4))

/-- The transmitter's choice at the end of a command: the reply of the oldest request, else the oldest notice,
which leaves the queue and is sent with its kind and tag 0, else nothing; and no choice while it is busy or CTS is
deasserted. The kind of a notice lies in the range of its class (R162). -/
def Obligations.TransmitterTakesReplyBeforeNotice : Prop :=
  (∀ b : NoticeBody,
    (b.cls = .progress → 0xC0 ≤ b.kind.toNat ∧ b.kind.toNat ≤ 0xC6) ∧
    (b.cls = .attention → 0xD0 ≤ b.kind.toNat ∧ b.kind.toNat ≤ 0xD7) ∧
    (b.cls = .fault → b.kind = 0xDC)) ∧
  ∀ s : State,
    (s.link.tx = .idle → s.link.cts = true →
      (∀ r, s.link.queue.head?.bind (·.reply) = some r →
        s.finish.link.tx = .sendingReply r ∧ s.finish.notices = s.notices) ∧
      (s.link.queue.head?.bind (·.reply) = none →
        (∀ n rest, s.notices = n :: rest →
          s.finish.link.tx = .sendingNotice n.body.kind 0 n ∧ s.finish.notices = rest) ∧
        (s.notices = [] → s.finish.link.tx = .idle ∧ s.finish.notices = []))) ∧
    ((s.link.tx ≠ .idle ∨ s.link.cts = false) →
      s.finish.link.tx = s.link.tx ∧ s.finish.notices = s.notices)

/-! ## Notices and requests -/

/-- A notice without a subject, or whose subject no entry has: appended with count 1; at a queue of 64 the
oldest PROGRESS entry goes first, and with none a PROGRESS notice is discarded. The queue never holds more than 64
entries, and no ATTENTION or FAULT entry is discarded (R163). -/
def Obligations.NoticeAppendedWithinSixtyFour : Prop :=
  ∀ (q : List Notice) (b : NoticeBody), (∀ n ∈ q, n.body.sameSubject b = false) →
    (q.length < 64 → queueNotice q b = q ++ [{ body := b, count := 1 }]) ∧
    (64 ≤ q.length → ∀ before n after, q = before ++ n :: after →
      n.body.cls = .progress → (∀ m ∈ before, m.body.cls ≠ .progress) →
      queueNotice q b = before ++ after ++ [{ body := b, count := 1 }]) ∧
    (64 ≤ q.length → b.cls = .progress → (∀ m ∈ q, m.body.cls ≠ .progress) → queueNotice q b = q) ∧
    (q.length ≤ 64 → (queueNotice q b).length ≤ 64) ∧
    (∀ n ∈ q, n.body.cls ≠ .progress → n ∈ queueNotice q b)

/-- A notice whose subject an entry has is merged into the first such entry: its place kept, its contents the new
notice's, its count one more, up to 255; only the carousel's CANISTER_UNSEATED gathers, each position of both notices
once. The subjects are those of R164's table: a canister report its position, with an order the order and the position, in
either kind; a carousel's CANISTER_UNSEATED the carousel; a MANUAL_STEP its order and entry, LIDS_OUT its class, the others
their kind alone. Only ATTENTION notices have a subject (R164). -/
def Obligations.NoticeMergedBySubject : Prop :=
  (∀ (before after : List Notice) (n : Notice) (b : NoticeBody),
    (∀ m ∈ before, m.body.sameSubject b = false) → n.body.sameSubject b = true →
    queueNotice (before ++ n :: after) b =
        before ++ { body := n.body.mergedWith b, count := min 255 (n.count + 1) } :: after ∧
      (n.body.mergedWith b).subject = b.subject ∧
      (b.subject ≠ some .carousel → n.body.mergedWith b = b)) ∧
  (∀ ps qs code code', ∃ rs,
    (NoticeBody.canisterUnseated 0 ps code).mergedWith (.canisterUnseated 0 qs code') =
        .canisterUnseated 0 rs code' ∧
      (∀ p : Position, p ∈ rs ↔ p ∈ ps ∨ p ∈ qs) ∧ (ps.Nodup → qs.Nodup → rs.Nodup) ∧
      (NoticeBody.canisterUnseated 0 rs code').subject = some .carousel) ∧
  (∀ b : NoticeBody, b.cls ≠ .attention → b.subject = none) ∧
  (∀ a b : NoticeBody, a.sameSubject b = true ↔ ∃ x, a.subject = some x ∧ b.subject = some x) ∧
  ((∀ p code v w, (NoticeBody.canisterLow p code v w).subject = some (.table p)) ∧
   (∀ p code v w f, (NoticeBody.canisterDry 0 p code v w f).subject = some (.table p)) ∧
   (∀ n p code v w f, n ≠ 0 → (NoticeBody.canisterDry n p code v w f).subject = some (.wait n p)) ∧
   (∀ n p code, n ≠ 0 → (NoticeBody.canisterUnseated n [p] code).subject = some (.wait n p)) ∧
   (∀ ps code, (NoticeBody.canisterUnseated 0 ps code).subject = some .carousel) ∧
   (∀ n i code v m r, (NoticeBody.manualStep n i code v m r).subject = some (.step n i)) ∧
   (∀ st cls, (NoticeBody.noOrderForTin st cls).subject = some .noOrder) ∧
   (∀ st, (NoticeBody.liddedTin st).subject = some .liddedTin) ∧
   (∀ n cls k, (NoticeBody.lidsOut n cls k).subject = some (.lids cls)) ∧
   (∀ m, (NoticeBody.estop m).subject = some .estop))

/-- A request is taken only when it is the oldest without a reply, or arrives when none waits and fewer than 4
are queued; its reply stands with it in the queue, no other entry changes, and its line flags are those of the moment:
CONGESTED at 48 ATTENTION and FAULT entries, BACKLOG at 32 entries (R160, R161; log 4). -/
def Obligations.RequestIsTakenInOrderAndAnsweredOnce : Prop :=
  (∀ s : State,
    (s.lineFlags.congested = true ↔ 48 ≤ (s.notices.filter fun n => n.body.cls ≠ .progress).length) ∧
    (s.lineFlags.estop = true ↔ s.line.mode = .stopped) ∧
    (s.lineFlags.backlog = true ↔ 32 ≤ s.notices.length) ∧
    (s.lineFlags.service = true ↔ s.line.mode = .service) ∧
    s.lineFlags.supplyWarned = s.link.warnedMark) ∧
  ∀ (s : State) (kind tag : Byte) (payload : List Byte) (before after : List InputEntry),
    (∀ e ∈ before, e.reply ≠ none) →
    (s.link.queue = before ++ { kind := kind, tag := tag, payload := payload, reply := none } :: after →
      s.offer kind tag payload = some s ∧
      ∀ st body, (s.answered kind tag st body).link.queue =
        before ++ { kind := kind, tag := tag, payload := payload,
                    reply := some { kind := if kind.toNat < 128 then kind + 0x80 else 0xFF, tag := tag, status := st,
                                    flags := s.lineFlags, body := body } } :: after) ∧
    (s.link.queue = before → before.length < 4 →
      s.offer kind tag payload = some { s with link := { s.link with
        queue := before ++ [{ kind := kind, tag := tag, payload := payload, reply := none }] } }) ∧
    (s.link.queue = before → 4 ≤ before.length → s.offer kind tag payload = none) ∧
    (∀ e, s.link.queue = before ++ e :: after → e.reply = none →
      ¬(e.kind = kind ∧ e.tag = tag ∧ e.payload = payload) → s.offer kind tag payload = none)

/-- IDENT, STATUS and a request of an unlisted kind: what each reply carries, with nothing else changed but the
supply-warned mark after STATUS; and a payload on a request that carries none is BAD_LENGTH and changes nothing else
(R144, R160, R161, R166). The position STATUS reports of a moving carousel is a free value (log 10). -/
def Obligations.LinkRequestsAnswered : Prop :=
  ((∀ (s w : State) (tag : Byte), s.Takes w 0x01 tag [] →
     exec (.ident tag []) s = .next (w.answered 0x01 tag .ok (.ident
       [0x57, 0x4B, 0x56, 0x2D, 0x32, 0x34, 0x30, 0x36] Config.hardwareRevision Config.firmwareRevision
       24 2 6)).finish) ∧
   (∀ (s w : State) (tag : Byte), s.Takes w 0x02 tag [] → w.positioner.move = none →
     ∃ u, exec (.status tag []) s = .next u.finish ∧
       u = { w.answered 0x02 tag .ok (.status w.statusReport) with
               link := { (w.answered 0x02 tag .ok (.status w.statusReport)).link with warnedMark := false } } ∧
       w.statusReport.mode = w.line.mode ∧ w.statusReport.position = w.positioner.position ∧
       w.statusReport.notices = w.notices.length ∧ w.statusReport.requests = w.link.queue.length ∧
       w.statusReport.liveOrders = w.book.orders.length ∧ w.statusReport.lastReading = w.weigh.last) ∧
   (∀ (s w : State) (tag : Byte) (m : MoveRecord), s.Takes w 0x02 tag [] → w.positioner.move = some m →
     ∃ k ≤ m.places, w.statusReport.position = m.counted k ∧
       exec (.status tag []) s = .next
         (((w.drawn).answered 0x02 tag .ok (.status w.statusReport)).clearWarnedMark).finish) ∧
   (∀ (s w : State) (kind tag : Byte) (p : List Byte), s.Takes w kind tag p → catalogue.contains kind = false →
     exec (.unknownKindRequest kind tag p) s = .next (w.answered kind tag .unknownKind .none).finish)) ∧
  (∀ (s w : State) (kind tag : Byte) (p : List Byte) (c : Instr), p ≠ [] → s.Takes w kind tag p →
     (kind, c) ∈ [((0x01 : Byte), Instr.ident tag p), (0x02, .status tag p), (0x25, .classQuery tag p), (0x40, .lineRun tag p),
       (0x41, .linePause tag p), (0x42, .lineService tag p), (0x43, .stopReset tag p), (0x44, .clearLine tag p),
       (0x51, .settingsQuery tag p), (0x60, .storeSave tag p)] →
     exec c s = .next (w.answered kind tag .badLength .none).finish)

/-- A frame whose check bytes are right is queued as one request while fewer than 4 wait, and is discarded unanswered
when 4 do; a gap drops what an unfinished frame has gathered; the end of a transmission frees the transmitter and,
after a reply, takes its request off the queue (R157 to R160, R162). -/
def Obligations.FramesReceivedAndSent : Prop :=
  (∀ (s : State) (kind tag : Byte) (p : List Byte), s.supply.warned = false → s.link.rx = [] →
     p.length ≤ 240 →
     (s.link.queue.length < 4 →
       exec (.frameReceived (frameBytes kind tag p)) s = .next ({ s with link := { s.link with
         queue := s.link.queue ++ [{ kind := kind, tag := tag, payload := p, reply := none }] } } : State).finish) ∧
     (4 ≤ s.link.queue.length → exec (.frameReceived (frameBytes kind tag p)) s = .next s.finish) ∧
     (∀ k, 1 ≤ k → k < (frameBytes kind tag p).length →
       exec (.frameGapTimeout ((frameBytes kind tag p).take k)) s = .next s.finish) ∧
     (∀ len : Byte, 240 < len.toNat → len ≠ 0xA5 →
       exec (.lengthByteOver240 [0xA5, len]) s = .next s.finish)) ∧
  ((∀ (s : State) (v : Bool), s.supply.warned = false →
     exec (.ctsChange v) s = .next ({ s with link := { s.link with cts := v } } : State).finish) ∧
   (∀ (s : State) (r : Reply) (e : InputEntry) (rest : List InputEntry), s.supply.warned = false →
     s.link.tx = .sendingReply r → s.link.queue = e :: rest →
     exec .transmitEnd s = .next ({ s with link := { s.link with tx := .idle, queue := rest } } : State).finish) ∧
   (∀ (s : State) (k t : Byte) (n : Notice), s.supply.warned = false → s.link.tx = .sendingNotice k t n →
     exec .transmitEnd s = .next ({ s with link := { s.link with tx := .idle } } : State).finish))

/-! ## Order requests -/

/-- An ORDER_SUBMIT that passes every check: the next admission sequence, the record with the fields as sent,
round 0 OPEN, QUEUED with the whole route, then the binding of a tin that waits for an order, and the counts of
the dry plan in the reply (R2, R9, R13). -/
def Obligations.SubmittedOrderIsAdmittedQueued : Prop :=
  ∀ (s w : State) (tag : Byte) (p : List Byte) (f : Submission) (plan : PlanContext), s.Takes w 0x10 tag p →
    p.length = 12 + 3 * Bytes.field p 11 1 → readSubmission p true = some f →
    w.order? f.number = none → w.book.orders.length < 32 → w.book.admission < 4294967295 →
    (∀ l ∈ f.lines, w.hasAttr (·.hold) l.code = false) →
    w.buildPlan f.number 0 { fill := f.fill, vref := f.vref, strength := f.strength } f.lines
      (headroom f.cls f.fill) w.shownPosition = .ok plan → plan.sum ≤ plan.available →
    exec (.orderSubmit tag p) s = .next ((({ w with book := { w.book with
        orders := w.book.orders ++ [{
          number := f.number, admission := w.book.admission + 1, rush := f.rush, cls := f.cls, fill := f.fill,
          vref := f.vref, strength := f.strength, profile := f.profile, holdOpen := f.holdOpen,
          rounds := [{ lines := f.lines, delivered := false }], state := .queued, beforeHold := none,
          tin := none, route := { dispense := true, mix := true, lid := true }, lidOnly := false,
          fromSlot := false, delivered := 0, flags := {}, pendingEnd := none, partialPlan := none,
          fault := none }]
        admission := w.book.admission + 1 } } : State).retryBinding).answered 0x10 tag .ok
          (.submitted (w.book.admission + 1) plan.counts)).finish

/-- The checks of ORDER_SUBMIT in their order, each answered alone and leaving everything but the reply as it
was (R8). That a line of amount 0 in a HOLD range is CODE_HELD too is the model's reading (log 56). -/
def Obligations.SubmitChecksInOrder : Prop :=
  ∀ (s w : State) (tag : Byte) (p : List Byte), s.Takes w 0x10 tag p →
    ((p.length < 12 ∨ p.length ≠ 12 + 3 * Bytes.field p 11 1) →
      exec (.orderSubmit tag p) s = .next (w.answered 0x10 tag .badLength .none).finish) ∧
    (p.length = 12 + 3 * Bytes.field p 11 1 → readSubmission p true = none →
      exec (.orderSubmit tag p) s = .next (w.answered 0x10 tag .badField .none).finish) ∧
    ∀ f, p.length = 12 + 3 * Bytes.field p 11 1 → readSubmission p true = some f →
      (w.order? f.number ≠ none →
        exec (.orderSubmit tag p) s = .next (w.answered 0x10 tag .duplicateOrder .none).finish) ∧
      (w.order? f.number = none → (32 ≤ w.book.orders.length ∨ 4294967295 ≤ w.book.admission) →
        exec (.orderSubmit tag p) s = .next (w.answered 0x10 tag .bookFull .none).finish) ∧
      (w.order? f.number = none → w.book.orders.length < 32 → w.book.admission < 4294967295 →
        (∀ before l after, f.lines = before ++ l :: after → w.hasAttr (·.hold) l.code = true →
          (∀ m ∈ before, w.hasAttr (·.hold) m.code = false) →
          exec (.orderSubmit tag p) s = .next (w.answered 0x10 tag .codeHeld (.line l.index)).finish) ∧
        ((∀ m ∈ f.lines, w.hasAttr (·.hold) m.code = false) →
          (∀ i, w.buildPlan f.number 0 { fill := f.fill, vref := f.vref, strength := f.strength } f.lines
              (headroom f.cls f.fill) w.shownPosition = .error i →
            exec (.orderSubmit tag p) s = .next (w.answered 0x10 tag .lineTooLarge (.line i)).finish) ∧
          (∀ plan, w.buildPlan f.number 0 { fill := f.fill, vref := f.vref, strength := f.strength } f.lines
              (headroom f.cls f.fill) w.shownPosition = .ok plan → plan.available < plan.sum →
            exec (.orderSubmit tag p) s = .next
              (w.answered 0x10 tag .overfill (.overfill plan.sum plan.available)).finish)))

/-- What the queries carry: the order's record, the plan's summary with at most 5 entries from the index asked for, the
canister's record with its derived quantities, the class table and the settings; and no query changes anything but its
reply, whatever it carries, save that a preview draws the free value that the position of a moving carousel is (R10,
R46, R52, R64, R167; log 10). That ORDER_QUERY carries 2 bytes and CANISTER_QUERY 1 is the model's choice (log 5). -/
def Obligations.QueriesReportAndChangeNothing : Prop :=
  ((∀ (s w : State) (tag : Byte) (p : List Byte) (o : Order), s.Takes w 0x11 tag p → p.length = 2 →
     w.order? (Bytes.field p 0 2) = some o →
     exec (.orderQuery tag p) s = .next (w.answered 0x11 tag .ok (.order {
       number := o.number, admission := o.admission, rush := o.rush, cls := o.cls, fill := o.fill, vref := o.vref,
       strength := o.strength, profile := o.profile, holdOpen := o.holdOpen,
       rounds := o.rounds.map fun r => (r.lines.length, r.delivered), state := o.state,
       beforeHold := o.beforeHold, tin := o.tin.getD 0, route := o.route, lidOnly := o.lidOnly,
       delivered := o.delivered, flags := o.flags, pendingEnd := o.pendingEnd, fault := o.fault,
       entries := (w.planOf o).map fun q => entryCounts q.entries })).finish) ∧
   (∀ (s w : State) (tag : Byte) (p : List Byte) (f : Submission) (plan : PlanContext), s.Takes w 0x17 tag p →
     12 ≤ p.length → p.length = 13 + 3 * Bytes.field p 11 1 → readSubmission p false = some f →
     Bytes.field p (p.length - 1) 1 ≤ 47 → (∀ l ∈ f.lines, w.hasAttr (·.hold) l.code = false) →
     w.buildPlan 0 0 { fill := f.fill, vref := f.vref, strength := f.strength } f.lines (headroom f.cls f.fill)
       w.shownPosition = .ok plan →
     ∃ records, exec (.planPreview tag p) s = .next (w.drawnInMotion.answered 0x17 tag
         (if plan.sum ≤ plan.available then .ok else .overfill)
         (.preview plan.counts (headroom f.cls f.fill) plan.entries.length records)).finish ∧
       records.length ≤ 5 ∧
       ∀ k < 5, ∀ e, plan.entries[Bytes.field p (p.length - 1) 1 + k]? = some e →
         ∃ r ∈ records, r.index = Bytes.field p (p.length - 1) 1 + k ∧ r.entry = e) ∧
   (∀ (s w : State) (tag : Byte) (p : List Byte) (pos : Position), s.Takes w 0x21 tag p → p.length = 1 →
     Bytes.field p 0 1 = pos.val → w.canisters[pos].configured = true →
     exec (.canisterQuery tag p) s = .next (w.answered 0x21 tag .ok (.canisterQuery pos w.canisters[pos]
       (w.canisters[pos].level - w.canisters[pos].floor) w.canisters[pos].condition
       (w.canisters[pos].finding w.canisters[pos].code w.canisters[pos].m) (w.inUse pos))).finish) ∧
   (∀ (s w : State) (tag : Byte), s.Takes w 0x25 tag [] →
     exec (.classQuery tag []) s = .next (w.answered 0x25 tag .ok (.classes w.classes)).finish) ∧
   (∀ (s w : State) (tag : Byte), s.Takes w 0x51 tag [] →
     exec (.settingsQuery tag []) s = .next (w.answered 0x51 tag .ok (.settings w.settings)).finish)) ∧
  (∀ (s w : State) (kind tag : Byte) (p : List Byte) (c : Instr), s.Takes w kind tag p →
     (kind, c) ∈ [((0x11 : Byte), Instr.orderQuery tag p), (0x17, .planPreview tag p), (0x21, .canisterQuery tag p),
       (0x25, .classQuery tag p), (0x51, .settingsQuery tag p)] →
     ∃ u st body, (u = w ∨ kind = 0x17 ∧ u = w.drawnInMotion) ∧
       exec c s = .next (u.answered kind tag st body).finish) ∧
  (∀ w : State,
    (w.positioner.move = none → w.shownPosition = w.positioner.position ∧ w.drawnInMotion = w) ∧
    (∀ m, w.positioner.move = some m → (∃ k ≤ m.places, w.shownPosition = m.counted k) ∧
      w.drawnInMotion = { w with freeCount := w.freeCount + 1 }))

/-- ORDER_CANCEL by where the tin is: freed at once; freed with the tin at the intake bound anew or, tinted, left to be
lifted; its pending end set while a stroke or a transfer runs on, else with the station clearing at once; a fault naming
the station removed first; OK without effect when an end already stands (log 23); TOO_LATE past the station (R11, R14 to
R16, R94). That the cancel of a HELD order appends one ORDER_STATE, before the pending end is set, is the model's reading
(log 24). -/
def Obligations.CancelByWhereTheTinIs : Prop :=
  ∀ (s w : State) (tag : Byte) (p : List Byte) (n : Nat) (o : Order), s.Takes w 0x12 tag p → p.length = 2 →
    Bytes.field p 0 2 = n → w.order? n = some o →
    (o.pendingEnd ≠ none →
      exec (.orderCancel tag p) s = .next (w.answered 0x12 tag .ok .none).finish) ∧
    (o.pendingEnd = none →
      (o.state ∈ [OrderState.queued, .returning, .check, .interrupted] →
        exec (.orderCancel tag p) s = .next ((w.freeOrder n .cancelled).answered 0x12 tag .ok .none).finish) ∧
      (o.state ∈ [OrderState.dispensed, .mixing, .lidding, .outlet] →
        exec (.orderCancel tag p) s = .next (w.answered 0x12 tag .tooLate .none).finish) ∧
      (∀ u : State, o.state = .bound → w.intake.bound = some n →
        u = { w.freeOrder n .cancelled with conveyor := { w.conveyor with intakeRequest := false } } →
        (o.receivedColourant o.partialPlan = true →
          exec (.orderCancel tag p) s = .next (({ u with
            intake := { w.intake with state := .clearing, bound := none } } : State).answered 0x12 tag .ok .none).finish) ∧
        (o.receivedColourant o.partialPlan = false → u.startsAllowed = false →
          exec (.orderCancel tag p) s = .next (({ u with intake := { w.intake with
            state := .waiting, lidded := false, bound := none } } : State).answered 0x12 tag .ok .none).finish) ∧
        (∀ q b, o.receivedColourant o.partialPlan = false → u.startsAllowed = true →
          u.bindable w.intake.cls = some (q, b) →
          exec (.orderCancel tag p) s = .next ((({ u with intake := { w.intake with
            lidded := false, bound := none } } : State).bindOrder q.number b).answered 0x12 tag .ok .none).finish) ∧
        (o.receivedColourant o.partialPlan = false → u.startsAllowed = true → u.bindable w.intake.cls = none →
          exec (.orderCancel tag p) s = .next (({ u with
            intake := { w.intake with state := .refused, lidded := false, bound := none, reason := .noOrderForTin }
            notices := queueNotice u.notices (.noOrderForTin .intake w.intake.cls) } : State).answered 0x12 tag .ok
              .none).finish)) ∧
      (∀ u : State, (o.state ∈ [OrderState.dispensing, .manual] ∨ o.state = .bound ∧ w.intake.bound ≠ some n) →
        u = (w.setPendingEnd n .cancelled).notify (.orderState n o.state (o.tin.getD 0) (some .cancelled)) →
        ((w.station.state = .stroking ∨ w.station.state = .receiving ∧ w.station.arrivalWaits = false) →
          exec (.orderCancel tag p) s = .next (u.answered 0x12 tag .ok .none).finish) ∧
        (w.station.state ≠ .stroking → (w.station.state = .receiving → w.station.arrivalWaits = true) →
          exec (.orderCancel tag p) s = .next (u.enterClearing.answered 0x12 tag .ok .none).finish)) ∧
      (∀ f, o.state = .held → o.fault = some f →
        (f.station ≠ .dispense →
          exec (.orderCancel tag p) s = .next (w.answered 0x12 tag .tooLate .none).finish) ∧
        (f.station = .dispense →
          exec (.orderCancel tag p) s = .next (((((if f.onTransfer then w.setRecord .dispense none else w).unhold
            n).setPendingEnd n .cancelled).enterClearing).answered 0x12 tag .ok .none).finish)))

/-- A freed order: ORDER_ENDED with its delivered volume, its record gone and no other touched, the return slot
emptied of it, and a lane that holds its tin set CLEARING while the tin stands; that the lane is EMPTY at once where its
sensor is low is the model's choice (R20, R141; log 52). -/
def Obligations.FreedOrderLeavesNothingBehind : Prop :=
  ∀ (s : State) (n : Nat) (o : Order) (reason : EndReason), s.order? n = some o →
    s.freeOrder n reason = { s with
      notices := queueNotice s.notices (.orderEnded n o.admission reason o.delivered)
      book := { s.book with
        orders := s.book.orders.filter fun q => q.number != n
        slot := if s.book.slot = some n then none else s.book.slot }
      lanes := (s.freeOrder n reason).lanes } ∧
    (s.freeOrder n reason).order? n = none ∧
    ∀ l : Lane,
      (s.lanes[l].tin.map TinRef.order ≠ some n → (s.freeOrder n reason).lanes[l] = s.lanes[l]) ∧
      (s.lanes[l].tin.map TinRef.order = some n → s.lanes[l].state ∈ [LaneState.collect, .check] →
        (s.freeOrder n reason).lanes[l] =
          { s.lanes[l] with state := if s.lanes[l].present then .clearing else .empty, tin := none })

/-- ORDER_APPROVE, ORDER_RESUME and ORDER_CORRECT that pass their checks put the order in the return slot,
RETURNING, with its route set, and binding is retried (R13, R17 to R19). -/
def Obligations.ReturnSlotRequestsAccepted : Prop :=
  (∀ (s w : State) (tag : Byte) (p : List Byte) (n : Nat) (o : Order), s.Takes w 0x14 tag p → p.length = 2 →
    Bytes.field p 0 2 = n → w.order? n = some o → o.state = .check → w.book.slot = none →
    exec (.orderApprove tag p) s = .next (((((w.modOrder n fun o => { o with
      route := { dispense := false, mix := false, lid := true }, lidOnly := true }).setSlot
      (some n)).changeOrder n .returning).retryBinding).answered 0x14 tag .ok .none).finish) ∧
  (∀ (s w : State) (tag : Byte) (p : List Byte) (n : Nat) (o : Order), s.Takes w 0x18 tag p → p.length = 2 →
    Bytes.field p 0 2 = n → w.order? n = some o → o.state = .interrupted → w.book.slot = none →
    o.flags.amountUnknown = false → o.flags.lidded = false →
    exec (.orderResume tag p) s = .next
      ((((w.setSlot (some n)).changeOrder n .returning).retryBinding).answered 0x18 tag .ok .none).finish) ∧
  (∀ (s w : State) (tag : Byte) (p : List Byte) (n : Nat) (o : Order) (plan : PlanContext),
    s.Takes w 0x13 tag p → 1 ≤ Bytes.field p 2 1 → Bytes.field p 2 1 ≤ 6 → 3 ≤ p.length →
    p.length = 3 + 3 * Bytes.field p 2 1 →
    (∀ l ∈ linesAt p 3 (Bytes.field p 2 1), 1 ≤ l.code ∧ l.code ≤ 250) →
    Bytes.field p 0 2 = n → w.order? n = some o → o.state = .check → w.book.slot = none →
    o.rounds.length < 4 →
    w.dryPlan o.number o.rounds.length { fill := 1, vref := 1, strength := 1000 }
      (mergeLines (linesAt p 3 (Bytes.field p 2 1))) (headroom o.cls o.fill - o.delivered) = .ok plan →
    exec (.orderCorrect tag p) s = .next (((((w.modOrder n fun o => { o with
      rounds := o.rounds ++ [{ lines := mergeLines (linesAt p 3 (Bytes.field p 2 1)), delivered := false }]
      route := { dispense := true, mix := true, lid := true }, lidOnly := false }).setSlot
      (some n)).changeOrder n .returning).retryBinding).answered 0x13 tag .ok
        (.corrected o.rounds.length plan.counts)).finish)

/-! ## RESOLVE and manual steps -/

/-- A fault record: stored with the order HELD and the actions of its kind and station, REMAKE among them only in round 0
with a plan to keep; kept when one stands; and removed with the state before hold restored; every other order is
untouched. A lamp is FAST while a live order's record names its station, else it shows the station's state, the outlet the
worst of its lanes (R5, R6, R152, R153). -/
def Obligations.FaultRecordHoldsAndReleasesTheOrder : Prop :=
  (∀ (s : State) (o : Order), s.remakeStored o = true ↔ o.rounds.length ≤ 1 ∧ s.station.plan ≠ none) ∧
  (∀ (d : Dest) (x m : Bool) (r : List Action), r = (if m then [.remake] else []) →
    (∀ k ∈ [FaultKind.under, .stall, .unseated], k.actions d x m = [.retryShot, .skipShot, .scrap] ++ r) ∧
    (∀ k ∈ [FaultKind.over, .sensor, .unweighed], k.actions d x m = [.accept, .scrap] ++ r) ∧
    FaultKind.actions .lost d x m = [.retry, .scrap] ++ r ∧ FaultKind.actions .plan d x m = [.cancel, .release] ∧
    FaultKind.actions .lidded d x m = [.scrap] ∧ FaultKind.actions .jam d x m = [.confirm, .scrap] ∧
    (∀ k ∈ [FaultKind.clamp, .imbalance], k.actions d x m = [.retry, .scrap]) ∧
    FaultKind.actions .seat d x m = [.retry, .pass, .scrap] ∧
    FaultKind.actions .estop d x m = [.retry, .scrap] ++ (if d = .dispense ∧ x = false then r else [])) ∧
  (∀ (s : State) (d : Dest),
    (∀ o ∈ s.book.orders, ∀ f, o.fault = some f → f.station = d → s.lamp d = .fast) ∧
    ((∀ o ∈ s.book.orders, ∀ f, o.fault = some f → f.station ≠ d) →
      (∀ l, (s.station.state, l) ∈ [(StationState.idle, Lamp.off), (.receiving, .steady), (.taring, .steady),
          (.planning, .steady), (.moving, .steady), (.stroking, .steady), (.settling, .steady), (.verifying, .steady),
          (.pausedHold, .steady), (.complete, .steady), (.sending, .steady), (.waitCanister, .slow),
          (.awaitManual, .slow), (.awaitRemakeTin, .slow), (.clearing, .slow), (.faultHeld, .fast),
          (.halted, .fast)] → d = .dispense → s.lamp d = l) ∧
      (∀ b, d = .bay b →
        ((s.bay b).state = .empty → s.lamp d = if (s.bay b).reservation = none then .off else .steady) ∧
        ((s.bay b).state ∈ [BayState.loading, .clamping, .spinning, .braking, .unclamping, .ready] →
          s.lamp d = .steady) ∧
        ((s.bay b).state = .clearing → s.lamp d = .slow) ∧
        ((s.bay b).state ∈ [BayState.fault, .halted] → s.lamp d = .fast)) ∧
      (∀ l, (s.lidder.state, l) ∈ [(LidderState.idle, Lamp.off), (.receiving, .steady), (.placing, .steady),
          (.pressing, .steady), (.checking, .steady), (.dischargeWait, .steady), (.sending, .steady),
          (.waitLids, .slow), (.clearing, .slow), (.fault, .fast), (.halted, .fast)] → d = .lidder → s.lamp d = l) ∧
      (d = .outlet → s.lamp d =
        if ∃ i : Lane, s.lanes[i].state ∈ [LaneState.check, .clearing] then .slow
        else if ∃ i : Lane, s.lanes[i].state ∈ [LaneState.reserved, .collect] then .steady else .off)) ∧
    (∀ l, (s.intake.state, l) ∈ [(IntakeState.empty, Lamp.off), (.waiting, .steady), (.bound, .steady),
      (.refused, .slow), (.clearing, .slow)] → s.intakeLamp = l)) ∧
  ∀ (s : State) (n : Nat) (o : Order), s.order? n = some o → (s.book.orders.map Order.number).Nodup →
    (∀ station k onTransfer entry, o.fault = none →
      (s.hold n station k onTransfer entry).order? n = some { o with
        fault := some { station := station, kind := k, onTransfer := onTransfer, entry := entry,
                        allowed := k.actions station onTransfer (s.remakeStored o) }
        beforeHold := some o.state, state := .held } ∧
      (s.hold n station k onTransfer entry).notices = queueNotice s.notices
        (.orderState n .held (o.tin.getD 0) o.pendingEnd)) ∧
    (∀ station k onTransfer entry, o.fault ≠ none → s.hold n station k onTransfer entry = s) ∧
    (∀ st, o.fault ≠ none → o.beforeHold = some st →
      (s.unhold n).order? n = some { o with fault := none, beforeHold := none, state := st } ∧
      (s.unhold n).notices = queueNotice s.notices (.orderState n st (o.tin.getD 0) o.pendingEnd)) ∧
    (∀ m st k onTransfer entry, m ≠ n →
      (s.hold n st k onTransfer entry).order? m = s.order? m ∧ (s.unhold n).order? m = s.order? m)

/-- Every action of RESOLVE is refused by the first check it fails, and a refusal changes nothing but the reply
(R154). -/
def Obligations.ResolveChecksInOrder : Prop :=
  ∀ (s w : State) (tag : Byte) (p : List Byte) (a : Action), s.Takes w 0x15 tag p →
    (p.length ≠ 3 → exec (a.row tag p) s = .next (w.answered 0x15 tag .badLength .none).finish) ∧
    (p.length = 3 → Action.ofCode (Bytes.field p 2 1) = none →
      exec (a.row tag p) s = .next (w.answered 0x15 tag .badField .none).finish) ∧
    (p.length = 3 → Action.ofCode (Bytes.field p 2 1) = some a →
      (w.order? (Bytes.field p 0 2) = none →
        exec (a.row tag p) s = .next (w.answered 0x15 tag .noSuchOrder .none).finish) ∧
      (∀ o, w.order? (Bytes.field p 0 2) = some o → o.fault = none → (a = .release → o.state ≠ .interrupted) →
        exec (a.row tag p) s = .next (w.answered 0x15 tag .wrongState .none).finish) ∧
      (∀ o f, w.order? (Bytes.field p 0 2) = some o → o.fault = some f → f.allowed.contains a = false →
        (a = .release → o.state ≠ .interrupted) →
        exec (a.row tag p) s = .next (w.answered 0x15 tag .actionNotAllowed .none).finish))

/-- RETRY_SHOT, SKIP_SHOT and ACCEPT: the record goes, the entry it names changes state, and the station goes on: with a
further top-up, with the remainder of R38 and a fresh reading, or with the next entry (R38, R70, R87, R107, R155;
log 55). -/
def Obligations.ResolveOfAShot : Prop :=
  ∀ (s w : State) (tag : Byte) (p : List Byte) (o : Order) (f : FaultRecord) (i : Nat),
    s.Takes w 0x15 tag p → f.entry = some i →
    (w.Resolves p .retryShot o f → f.kind = .under →
      exec (.resolveRetryShot tag p) s = .next (((((w.unhold o.number).setEntry i .active).modStation fun st =>
        { st with freshNeeded := true }).beginOrHold .topup).answered 0x15 tag .ok .none).finish) ∧
    (w.Resolves p .retryShot o f → f.kind ≠ .under →
      exec (.resolveRetryShot tag p) s = .next
        (((w.unhold o.number).retryPartial).answered 0x15 tag .ok .none).finish) ∧
    (∀ u q e pos, w.Resolves p .retryShot o f → f.kind ≠ .under → u = w.unhold o.number →
      w.station.order = some o.number → w.curIndex = some i → w.station.plan = some q →
      q.entries[i]? = some e → e.state = .partialShot → e.pos = some pos → w.canisters[pos].mark = e.mark →
      e.delivered < e.steps + e.topup →
      exec (.resolveRetryShot tag p) s = .next (((({ u with station := { u.station with
          plan := some { q with entries := q.entries.set i { e with state := .active, owed := some {
            target := {
              mass := halfUp ((e.steps + e.topup - e.delivered) * w.canisters[pos].d * w.canisters[pos].rho) 1000000
              tol := max w.settings.tolAbs (halfUp (halfUp ((e.steps + e.topup - e.delivered) * w.canisters[pos].d *
                w.canisters[pos].rho) 1000000 * w.settings.tolPm) 1000) }
            strokes := strokesOf (e.steps + e.topup - e.delivered) w.canisters[pos].c } } }
          freshNeeded := true
          cur := u.station.cur.map fun c => { c with phase := .remainder } } } : State).beginOrHold
            .serve)).answered 0x15 tag .ok .none).finish) ∧
    (w.Resolves p .skipShot o f →
      exec (.resolveSkipShot tag p) s = .next
        ((((w.unhold o.number).setEntry i .skipped).serveNext).answered 0x15 tag .ok .none).finish) ∧
    (w.Resolves p .accept o f → f.kind ≠ .over →
      exec (.resolveAccept tag p) s = .next
        ((((w.unhold o.number).setEntry i .done).serveNext).answered 0x15 tag .ok .none).finish) ∧
    (w.Resolves p .accept o f → f.kind = .over →
      exec (.resolveAccept tag p) s = .next
        (((((w.unhold o.number).setEntry i .done).setFlag o.number fun g =>
          { g with overAccepted := true }).serveNext).answered 0x15 tag .ok .none).finish)

/-- RETRY by what the record names: homing after LOST, the resumption of an e-stop's station, whose PARTIAL entry is
recomputed first where its mark is stale, LOADING at a bay, a resume point at the lidder, and a HALTED transfer that
waits to run, or arrives when its tin has (R70, R87, R92, R118, R126, R127, R137, R138; log 42). That the RETRY of an
e-stop's station clears it for an order with a pending end, for which nothing more may start, is the model's reading (R15,
log 14). -/
def Obligations.ResolveRetryTakesTheOperationUp : Prop :=
  ∀ (s w : State) (tag : Byte) (p : List Byte) (o : Order) (f : FaultRecord), s.Takes w 0x15 tag p →
    w.Resolves p .retry o f →
    (f.onTransfer = false → f.station = .dispense → f.kind = .lost →
      exec (.resolveRetry tag p) s = .next
        (((w.unhold o.number).beginOrHold .homing).answered 0x15 tag .ok .none).finish) ∧
    (∀ r, f.onTransfer = false → f.station = .dispense → f.kind = .estop → o.pendingEnd = none →
      w.station.resume = some r →
      exec (.resolveRetry tag p) s = .next
        ((if r = .serve then (w.unhold o.number).retryPartial
          else if r = .verdict then (w.unhold o.number).retryVerdict
          else (w.unhold o.number).beginOrHold r).answered 0x15 tag .ok .none).finish) ∧
    (f.onTransfer = false → f.station = .dispense → f.kind = .estop → o.pendingEnd ≠ none →
      exec (.resolveRetry tag p) s = .next
        (((w.unhold o.number).enterClearing).answered 0x15 tag .ok .none).finish) ∧
    (∀ i e, f.onTransfer = false → f.station = .dispense → f.kind = .estop → o.pendingEnd = none →
      w.station.resume = some .verdict → w.station.order = some o.number → w.curIndex = some i →
      w.entry? i = some e → (∀ pos, e.pos = some pos → w.canisters[pos].mark = e.mark) →
      exec (.resolveRetry tag p) s = .next
        (((w.unhold o.number).beginOrHold .verdict).answered 0x15 tag .ok .none).finish) ∧
    (∀ b, f.onTransfer = false → f.station = .bay b →
      exec (.resolveRetry tag p) s = .next
        (((w.unhold o.number).modBay b fun y => { y with
          state := .loading, cause := none, brake := false }).answered 0x15 tag .ok .none).finish) ∧
    (f.onTransfer = false → f.station = .lidder → f.kind = .seat →
      exec (.resolveRetry tag p) s = .next
        (((w.unhold o.number).modLidder fun l => { l with
          state := .receiving, resume := if l.lidOn then some .press else some .place }).answered 0x15 tag
            .ok .none).finish) ∧
    (f.onTransfer = false → f.station = .lidder → f.kind = .estop →
      exec (.resolveRetry tag p) s = .next
        (((w.unhold o.number).modLidder fun l => { l with state := .receiving }).answered 0x15 tag
            .ok .none).finish) ∧
    (∀ t, f.onTransfer = true → w.record f.station = some t → t.arrived = false →
      exec (.resolveRetry tag p) s = .next
        (((w.unhold o.number).setRecord f.station (some { t with retried := true })).answered 0x15 tag
          .ok .none).finish) ∧
    (∀ t, f.onTransfer = true → w.record f.station = some t → t.arrived = true →
      exec (.resolveRetry tag p) s = .next
        (((w.unhold o.number).endArrival f.station t).answered 0x15 tag .ok .none).finish)

/-- CONFIRM hands the jammed tin over as arrived and PASS discharges it unlidded; SCRAP, CANCEL, REMAKE and RELEASE set
the pending end and clear the named block, await the fresh tin, or free the order; nothing starts for an order with a
pending end (R15, R71, R87, R96, R117, R129, R137, R142, R154, R155). That a SCRAP tells a source still in SENDING (log
51), and that a REMAKE with a pending end clears the station (log 14), are the model's readings. -/
def Obligations.ResolvePassesOrGivesUpTheTin : Prop :=
  (∀ (s w : State) (tag : Byte) (p : List Byte) (o : Order) (f : FaultRecord), s.Takes w 0x15 tag p →
     (∀ t, w.Resolves p .confirm o f → w.record f.station = some t →
       exec (.resolveConfirm tag p) s = .next
         ((((w.unhold o.number).setRecord f.station none).handTin f.station t).tellSource t |>.answered 0x15 tag
           .ok .none).finish) ∧
     (w.Resolves p .pass o f →
       exec (.resolvePass tag p) s = .next
         (({ ((w.unhold o.number).modOrder o.number fun o => { o with
               route := { o.route with lid := false }, lidOnly := false }) with
             lidder := { w.lidder with state := .dischargeWait, resume := none }
             conveyor := { w.conveyor with outletRequest := true } } : State).answered 0x15 tag .ok .none).finish)) ∧
  (∀ (s w : State) (tag : Byte) (p : List Byte) (o : Order) (f : FaultRecord), s.Takes w 0x15 tag p →
     (w.Resolves p .scrap o f → f.onTransfer = false → f.station = .dispense →
       exec (.resolveScrap tag p) s = .next
         ((((w.unhold o.number).setPendingEnd o.number .scrapped).enterClearing).answered 0x15 tag
           .ok .none).finish) ∧
     (∀ b, w.Resolves p .scrap o f → f.onTransfer = false → f.station = .bay b →
       exec (.resolveScrap tag p) s = .next
         ((((w.unhold o.number).setPendingEnd o.number .scrapped).clearBay b).answered 0x15 tag
           .ok .none).finish) ∧
     (w.Resolves p .scrap o f → f.onTransfer = false → f.station = .lidder →
       exec (.resolveScrap tag p) s = .next
         ((((w.unhold o.number).setPendingEnd o.number .scrapped).clearLidder).answered 0x15 tag
           .ok .none).finish) ∧
     (∀ t, w.Resolves p .scrap o f → f.onTransfer = true → w.record f.station = some t →
       exec (.resolveScrap tag p) s = .next
         ((((w.unhold o.number).setPendingEnd o.number .scrapped).scrapTransfer f.station t).answered 0x15 tag
           .ok .none).finish) ∧
     (w.Resolves p .cancel o f →
       exec (.resolveCancel tag p) s = .next
         ((((w.unhold o.number).setPendingEnd o.number .cancelled).enterClearing).answered 0x15 tag
           .ok .none).finish) ∧
     (w.Resolves p .remake o f → o.pendingEnd = none →
       exec (.resolveRemake tag p) s = .next
         ((((((w.unhold o.number).modOrder o.number fun o => { o with tin := none }).modStation fun st =>
           { st with state := .awaitRemakeTin, tin := none, cur := none, resume := none,
                     plan := st.plan.map fun q => { q with resetDue := true } }).changeOrder o.number
             .dispensing)).answered 0x15 tag .ok .none).finish) ∧
     (w.Resolves p .remake o f → o.pendingEnd ≠ none →
       exec (.resolveRemake tag p) s = .next
         (((w.unhold o.number).enterClearing).answered 0x15 tag .ok .none).finish) ∧
     (w.Resolves p .release o f → o.state ≠ .interrupted →
       exec (.resolveRelease tag p) s = .next
         (((((w.unhold o.number).freeOrder o.number .released).modStation fun st =>
           { st with order := none, tin := none, plan := none }).enterClearing).answered 0x15 tag
             .ok .none).finish) ∧
     (p.length = 3 → Action.ofCode (Bytes.field p 2 1) = some .release →
       w.order? (Bytes.field p 0 2) = some o → o.state = .interrupted →
       exec (.resolveRelease tag p) s = .next
         ((w.freeOrder o.number .released).answered 0x15 tag .ok .none).finish))

/-- MANUAL_DONE takes the host's mass and asks for the verdict's reading; MANUAL_SKIP skips the entry, flags the order and
serves the next. The verdict judges the mass over the whole step, else the host's: UNDER asks again for the deficit, OVER
fails the entry, no mass is SENSOR, and PASS flags the order and serves the next. A host mass above 30,000,000 mg is
BAD_FIELD, an unknown order NO_SUCH_ORDER, and a step not awaited WRONG_STATE (R86, R89, R90). The payload layout (log 5)
and the judged mass absent in SHOT_DONE when none was formed (log 29) are the model's choice. -/
def Obligations.ManualStepAnswered : Prop :=
  (∀ (s u : State) (r m : Option Nat) (c : CurrentEntry) (e : Entry), s.current? = some (c, e) → c.phase = .manual →
    m = (match increment c.start r, c.hostMass with
      | some d, _ => some (c.carried + d)
      | none, some h => some (c.judged + h)
      | none, none => none) →
    u = ((s.endReading r).modCur fun c => { c with judged := m.getD c.judged, hostMass := none }).modEntry c.index
      (fun e => { e with measured := if m.isSome then m else e.measured }) →
    (m = none → c.target ≠ none →
      s.verdictReading r = (u.setEntry c.index .failed).fault .sensor (some c.index) .none) ∧
    (∀ t w, c.target = some t → m = some w →
      (w + t.tol < t.mass → s.verdictReading r = (u.shotDone .under m).issueManual true) ∧
      (t.mass + t.tol < w → s.verdictReading r =
        ((u.shotDone .over m).setEntry c.index .failed).fault .over (some c.index) (.mass w (some t))) ∧
      (t.mass ≤ w + t.tol → w ≤ t.mass + t.tol → s.verdictReading r =
        (((u.shotDone .pass m).setEntry c.index .done).setFlag s.served fun g =>
          { g with manualUsed := true }).serveNext)) ∧
    (c.target = none → s.verdictReading r = (((u.shotDone .pass m).setEntry c.index .done).setFlag s.served fun g =>
      { g with manualUsed := true }).serveNext)) ∧
  (∀ (s : State) (c : CurrentEntry) (e : Entry) (t : Target) (rho : Nat), s.current? = some (c, e) →
    c.target = some t → s.densityOf e.code = some rho →
    s.issueManual true = (s.notify (.manualStep s.served c.index e.code (halfUp ((t.mass - c.judged) * 1000000) rho)
      (t.mass - c.judged) e.round)).modStation fun st => { st with state := .awaitManual }) ∧
  (∀ (s w : State) (tag : Byte) (p : List Byte) (c : Instr) (skip : Bool), s.Takes w 0x16 tag p → p.length = 8 →
    (c, skip) ∈ [(Instr.manualDone tag p, false), (.manualSkip tag p, true)] →
    (Bytes.field p 3 1).testBit 0 = skip →
    (skip = false → (Bytes.field p 3 1).testBit 1 = true → 30000000 < Bytes.field p 4 4 →
      exec c s = .next (w.answered 0x16 tag .badField .none).finish) ∧
    ((skip = false → (Bytes.field p 3 1).testBit 1 = true → Bytes.field p 4 4 ≤ 30000000) →
      (w.order? (Bytes.field p 0 2) = none → exec c s = .next (w.answered 0x16 tag .noSuchOrder .none).finish) ∧
      (w.order? (Bytes.field p 0 2) ≠ none →
        (w.station.state ≠ .awaitManual ∨ w.station.order ≠ some (Bytes.field p 0 2) ∨
          w.curIndex ≠ some (Bytes.field p 2 1)) →
        exec c s = .next (w.answered 0x16 tag .wrongState .none).finish))) ∧
  ∀ (s w : State) (tag : Byte) (p : List Byte) (o : Order) (i : Nat), s.Takes w 0x16 tag p → p.length = 8 →
    w.order? (Bytes.field p 0 2) = some o → w.station.state = .awaitManual →
    w.station.order = some (Bytes.field p 0 2) → w.curIndex = some i → Bytes.field p 2 1 = i →
    ((Bytes.field p 3 1).testBit 0 = false →
      ((Bytes.field p 3 1).testBit 1 = true → Bytes.field p 4 4 ≤ 30000000) →
      exec (.manualDone tag p) s = .next (((w.modCur fun c => { c with
        hostMass := if (Bytes.field p 3 1).testBit 1 then some (Bytes.field p 4 4) else none }).settleVerdict
        ).answered 0x16 tag .ok .none).finish) ∧
    ((Bytes.field p 3 1).testBit 0 = true →
      exec (.manualSkip tag p) s = .next ((((w.setEntry i .skipped).setFlag (Bytes.field p 0 2) fun g =>
        { g with manualSkipped := true }).serveNext).answered 0x16 tag .ok .none).finish)
/-! ## The tables, the lids, the settings and the flash store -/

/-- A CANISTER_SET that passes every check leaves the record of R42 in the canister table and answers with it; a
stroke that waits on the position checks again when the table's answer to it has changed (R42, R80). -/
def Obligations.CanisterSetLeavesTheRecord : Prop :=
  ∀ (s w : State) (tag : Byte) (p : List Byte) (f : CanisterFields) (c : Canister), s.Takes w 0x20 tag p →
    p.length = 31 → readCanister p = some f → w.setRefused f = false → w.roleTaken f = false →
    c = { code := f.code, role := f.role, d := f.d, rho := f.rho, c := f.c, m := f.m, capacity := f.capacity,
          floor := f.floor, low := f.low, level := min f.level (f.capacity * 1000000),
          seated := w.canisters[f.pos].seated, confirmed := true,
          lowArmed := decide (f.low * 1000000 ≤ min f.level (f.capacity * 1000000)),
          dryArmed := decide (f.m * f.d ≤ min f.level (f.capacity * 1000000) - f.floor),
          mark := if w.canisters[f.pos].code = 0 ∨ f.changes w.canisters[f.pos] = true
            then (w.canisters[f.pos].mark + 1) % 4294967296 else w.canisters[f.pos].mark,
          drawing := w.canisters[f.pos].drawing } →
    (w.station.state ≠ .waitCanister →
      exec (.canisterSet tag p) s = .next (({ w with canisters := w.canisters.set f.pos c } : State).answered 0x20 tag
        (if f.level ≤ f.capacity * 1000000 then .ok else .adjusted)
        (.canister f.pos c (c.level - c.floor) c.condition)).finish) ∧
    (∀ x e, w.station.state = .waitCanister → w.current? = some (x, e) → e.pos = some f.pos →
      c.finding e.code (x.strokes.getD x.ended 0) ≠
        w.canisters[f.pos].finding e.code (x.strokes.getD x.ended 0) →
      exec (.canisterSet tag p) s = .next (({ w with canisters := w.canisters.set f.pos c } : State).recheck.answered
        0x20 tag (if f.level ≤ f.capacity * 1000000 then .ok else .adjusted)
        (.canister f.pos c (c.level - c.floor) c.condition)).finish)

/-- CANISTER_REFILL adds to the level up to the capacity and confirms, and a stroke that waits on the position checks again
when the table's answer to it has changed; CANISTER_CLEAR leaves the position with its switch and its mark advanced;
neither touches another position (R44, R45, R80). The payload layouts are the model's choice (log 5). -/
def Obligations.CanisterRefillAndClear : Prop :=
  (∀ (s w : State) (tag : Byte) (p : List Byte) (pos : Position) (lv : Nat), s.Takes w 0x22 tag p →
    p.length = 5 → Bytes.field p 0 1 = pos.val → 1 ≤ Bytes.field p 1 4 → Bytes.field p 1 4 ≤ 5000000 →
    w.canisters[pos].code ≠ 0 →
    lv = min (w.canisters[pos].level + Bytes.field p 1 4 * 1000) (w.canisters[pos].capacity * 1000000) →
    ∃ c : Canister, c = { w.canisters[pos] with
        level := lv, confirmed := true
        lowArmed := decide (w.canisters[pos].low * 1000000 ≤ lv)
        dryArmed := decide (w.canisters[pos].m * w.canisters[pos].d ≤ lv - w.canisters[pos].floor) } ∧
      ∀ st, st = (if w.canisters[pos].level + Bytes.field p 1 4 * 1000 ≤ w.canisters[pos].capacity * 1000000
          then Status.ok else .adjusted) →
        ((w.station.state ≠ .waitCanister ∨ (∀ x e, w.current? = some (x, e) → e.pos = some pos →
            c.finding e.code (x.strokes.getD x.ended 0) =
              w.canisters[pos].finding e.code (x.strokes.getD x.ended 0))) →
          exec (.canisterRefill tag p) s = .next (({ w with canisters := w.canisters.set pos c } : State).answered 0x22
            tag st (.level lv (lv - c.floor) c.condition)).finish) ∧
        (∀ x e, w.station.state = .waitCanister → w.current? = some (x, e) → e.pos = some pos →
          c.finding e.code (x.strokes.getD x.ended 0) ≠
            w.canisters[pos].finding e.code (x.strokes.getD x.ended 0) →
          exec (.canisterRefill tag p) s = .next (({ w with canisters := w.canisters.set pos c }
            : State).recheck.answered 0x22 tag st (.level lv (lv - c.floor) c.condition)).finish)) ∧
  (∀ (s w : State) (tag : Byte) (p : List Byte) (pos : Position), s.Takes w 0x23 tag p → p.length = 1 →
    Bytes.field p 0 1 = pos.val → w.inUse pos = false →
    (w.canisters[pos].code = 0 →
      exec (.canisterClear tag p) s = .next (w.answered 0x23 tag .ok .none).finish) ∧
    (w.canisters[pos].code ≠ 0 →
      exec (.canisterClear tag p) s = .next (({ w with
        canisters := w.canisters.set pos
          { seated := w.canisters[pos].seated, mark := (w.canisters[pos].mark + 1) % 4294967296 } } :
        State).answered 0x23 tag .ok .none).finish))

/-- CLASS_SET replaces one entry, LIDS_LOADED sets one magazine's count up to 80 and marks a lidder that waits for
that class, and SETTINGS_SET takes each value held to its range (R52, R110, R123, R134, R135, R167; payload
layouts of the first two log 5). -/
def Obligations.ClassLidsAndSettingsTaken : Prop :=
  (∀ (s w : State) (tag : Byte) (p : List Byte) (i : Fin 6), s.Takes w 0x24 tag p → p.length = 5 →
    Bytes.field p 0 1 = i.val → 1 ≤ Bytes.field p 2 1 → Bytes.field p 2 1 ≤ Bytes.field p 3 1 →
    Bytes.field p 3 1 ≤ 250 → Bytes.field p 4 1 < 16 →
    ∃ e : ClassEntry, e = {
        enabled := (Bytes.field p 1 1).testBit 0, first := Bytes.field p 2 1,
        last := Bytes.field p 3 1, late := (Bytes.field p 4 1).testBit 0, gentle := (Bytes.field p 4 1).testBit 1,
        hold := (Bytes.field p 4 1).testBit 2, weigh := (Bytes.field p 4 1).testBit 3 } ∧
      exec (.classSet tag p) s = .next (({ w with classes := w.classes.set i e } : State).answered 0x24 tag .ok
        .none).finish) ∧
  (∀ (s w : State) (tag : Byte) (p : List Byte) (cls : TinClass), s.Takes w 0x30 tag p → p.length = 2 →
    Bytes.field p 0 1 = cls.code →
    ∃ m : Magazines, m.count cls = min (Bytes.field p 1 1) 80 ∧
      (∀ k, k ≠ cls → m.count k = w.lidder.magazines.count k) ∧
      exec (.lidsLoaded tag p) s = .next (({ w with lidder := { w.lidder with
        magazines := m
        loaded := w.lidder.loaded || decide (w.lidder.state = .waitLids ∧
          w.lidder.tin.map LidderTin.cls = some cls) } } : State).answered 0x30 tag
        (if Bytes.field p 1 1 ≤ 80 then .ok else .adjusted) (.lids m)).finish) ∧
  (∀ (s w : State) (tag : Byte) (p : List Byte), s.Takes w 0x50 tag p → p.length = 14 →
    ∃ st : Settings, st.InRange ∧
      st.tolAbs = clampTo (Bytes.field p 0 2) 10 2000 ∧ st.tolPm = clampTo (Bytes.field p 2 2) 5 100 ∧
      st.window = clampTo (Bytes.field p 4 2) 500 5000 ∧ st.standard = clampTo (Bytes.field p 6 2) 20 600 ∧
      st.long = clampTo (Bytes.field p 8 2) 20 600 ∧ st.gentle = clampTo (Bytes.field p 10 2) 20 600 ∧
      st.short = clampTo (Bytes.field p 12 2) 20 600 ∧
      exec (.settingsSet tag p) s = .next (({ w with settings := st } : State).answered 0x50 tag
        (if st = readSettings p then .ok else .adjusted) (.settings st)).finish) ∧
  (∀ (s w : State) (tag : Byte) (p : List Byte), s.Takes w 0x50 tag p → p.length ≠ 14 →
    exec (.settingsSet tag p) s = .next (w.answered 0x50 tag .badLength .none).finish)

/-- STORE_SAVE copies the three tables as they stand and makes the image invalid until the save has ended with
every write verified; a second one meanwhile is STORE_BUSY (R176). -/
def Obligations.StoreSaveAndItsEnd : Prop :=
  (∀ (s w : State) (tag : Byte), s.Takes w 0x60 tag [] →
    (w.supply.saving = none →
      exec (.storeSave tag []) s = .next (({ w with supply := { w.supply with
        flashValid := false
        saving := some { canisters := w.canisters, classes := w.classes, settings := w.settings } } }
          : State).answered 0x60 tag .ok .none).finish) ∧
    (w.supply.saving ≠ none →
      exec (.storeSave tag []) s = .next (w.answered 0x60 tag .storeBusy .none).finish)) ∧
  (∀ (s : State) (v : Bool) (t : Tables), s.supply.warned = false → s.supply.saving = some t →
    exec (.storeSaveEnd v) s = .next ({ s with
      supply := { s.supply with saving := none, flash := t, flashValid := v }
      notices := queueNotice s.notices (.storeSaved v) } : State).finish)

/-- LINE_RUN by mode, pending request and carousel (R54, R145). -/
def Obligations.LineRunByMode : Prop :=
  ∀ (s w : State) (tag : Byte), s.Takes w 0x40 tag [] →
    (w.line.mode = .paused → w.line.pendingMode = none → w.positioner.state = .homed →
      exec (.lineRun tag []) s = .next (({ w with
        line := { w.line with mode := .running }
        notices := queueNotice w.notices (.lineMode .running none) } : State).answered 0x40 tag .ok .none).finish) ∧
    (w.line.mode = .paused → w.line.pendingMode = none →
      w.positioner.state ∈ [PositionerState.unhomed, .lost, .failed] → w.positioner.onMark = false →
      exec (.lineRun tag []) s = .next (({ w with
        line := { w.line with pendingMode := some .run }
        positioner := { w.positioner with state := .homing, markSeen := false } } : State).answered 0x40 tag .ok
          .none).finish) ∧
    (w.line.mode = .paused → w.line.pendingMode = some .run →
      exec (.lineRun tag []) s = .next (w.answered 0x40 tag .ok .none).finish) ∧
    (w.line.mode = .running → w.line.pendingMode = some .pause →
      exec (.lineRun tag []) s = .next (({ w with line := { w.line with pendingMode := none } } : State).answered
        0x40 tag .ok .none).finish) ∧
    (w.line.mode = .running → w.line.pendingMode = none →
      exec (.lineRun tag []) s = .next (w.answered 0x40 tag .ok .none).finish) ∧
    (w.line.mode = .service → w.positioner.state ∈ [PositionerState.unhomed, .lost, .failed] →
      w.positioner.onMark = false →
      exec (.lineRun tag []) s = .next (({ w with
        line := { w.line with mode := .paused, pendingMode := some .run }
        notices := queueNotice w.notices (.lineMode .paused (some .run))
        positioner := { w.positioner with state := .homing, markSeen := false } } : State).answered 0x40 tag .ok
          .none).finish) ∧
    (w.line.mode = .stopped → exec (.lineRun tag []) s = .next (w.answered 0x40 tag .mode .none).finish)

/-- LINE_PAUSE and PAUSE_COMPLETE: the pause stands while a station works and ends in PAUSED when every station is at
rest; in SERVICE the mode becomes PAUSED and the carousel is homed; LINE_SERVICE only in PAUSED with nothing pending, the carousel still and no entry pending (R57, R144, R146,
R147). -/
def Obligations.LinePauseAndLineService : Prop :=
  ((∀ (s w : State) (tag : Byte), s.Takes w 0x41 tag [] →
     (w.line.mode = .running → w.line.pendingMode = none → w.station.state ≠ .waitCanister →
       w.allAtRest = false →
       exec (.linePause tag []) s = .next (({ w with line := { w.line with pendingMode := some .pause } }
         : State).answered 0x41 tag .ok .none).finish) ∧
     (w.line.mode = .running → w.line.pendingMode = none → w.allAtRest = true →
       exec (.linePause tag []) s = .next (({ w with
         line := { w.line with mode := .paused, pendingMode := none }
         notices := queueNotice w.notices (.lineMode .paused none) } : State).answered 0x41 tag .ok .none).finish) ∧
     (w.line.mode = .running → w.line.pendingMode = some .pause →
       exec (.linePause tag []) s = .next (w.answered 0x41 tag .ok .none).finish) ∧
     (w.line.mode = .paused →
       exec (.linePause tag []) s = .next (({ w with line := { w.line with pendingMode := none } } : State).answered
         0x41 tag .ok .none).finish) ∧
     (w.line.mode = .service → w.positioner.state ∈ [PositionerState.unhomed, .lost, .failed] →
       (w.positioner.onMark = false →
         exec (.linePause tag []) s = .next (({ w with
           line := { w.line with mode := .paused, pendingMode := none }
           notices := queueNotice w.notices (.lineMode .paused none)
           positioner := { w.positioner with state := .homing, markSeen := false } } : State).answered 0x41 tag .ok
             .none).finish) ∧
       (w.positioner.onMark = true → w.station.awaitHoming = false →
         exec (.linePause tag []) s = .next (({ w with
           line := { w.line with mode := .paused, pendingMode := none }
           notices := queueNotice w.notices (.lineMode .paused none)
           positioner := { w.positioner with state := .homed, position := 0, move := none, markSeen := false } }
             : State).answered 0x41 tag .ok .none).finish)) ∧
     (w.line.mode = .stopped → exec (.linePause tag []) s = .next (w.answered 0x41 tag .mode .none).finish)) ∧
   (∀ s : State, s.supply.warned = false → s.line.mode = .running → s.line.pendingMode = some .pause →
     (s.allAtRest = true →
       exec .pauseComplete s = .next ({ s with
         line := { s.line with mode := .paused, pendingMode := none }
         notices := queueNotice s.notices (.lineMode .paused none) } : State).finish) ∧
     (s.allAtRest = false → exec .pauseComplete s = .next s.finish))) ∧
  (∀ (s w : State) (tag : Byte), s.Takes w 0x42 tag [] →
    ((w.line.mode = .paused ∧ w.line.pendingMode = none ∧ w.positioner.state ≠ .homing ∧
        w.positioner.state ≠ .moving ∧ w.station.entriesPending = false) →
      exec (.lineService tag []) s = .next (({ w with
        line := { w.line with mode := .service, pendingMode := none }
        notices := queueNotice w.notices (.lineMode .service none)
        positioner := { w.positioner with state := .unhomed, move := none } } : State).answered 0x42 tag .ok
          .none).finish) ∧
    (¬(w.line.mode = .paused ∧ w.line.pendingMode = none ∧ w.positioner.state ≠ .homing ∧
        w.positioner.state ≠ .moving ∧ w.station.entriesPending = false) →
      exec (.lineService tag []) s = .next (w.answered 0x42 tag .mode .none).finish))

/-- STOP_RESET in STOPPED with the chain closed clears the latch, makes the mode PAUSED and appends LINE_MODE, and starts
nothing and ends no fault; with the chain open and in any other mode it is answered MODE (R149). -/
def Obligations.StopResetOnlyInStoppedWithTheChainClosed : Prop :=
  ∀ (s w : State) (tag : Byte), s.Takes w 0x43 tag [] →
   (w.line.mode = .stopped → w.line.chainOpen = false →
     exec (.stopReset tag []) s = .next (({ w with
       line := { w.line with mode := .paused, pendingMode := none, latch := false }
       notices := queueNotice w.notices (.lineMode .paused none) } : State).answered 0x43 tag .ok .none).finish) ∧
   ((w.line.mode ≠ .stopped ∨ w.line.chainOpen = true) →
     exec (.stopReset tag []) s = .next (w.answered 0x43 tag .mode .none).finish)

/-- CLEAR_LINE empties the line in PAUSED or STOPPED: every station, record, request and lane reservation is cleared, with
the last settled reading (log 49), each order on the line is freed, interrupted or queued again by R21, its plan kept only
while its round is OPEN (log 22), and every other order, the other lanes, the return slot, the counts, the tables, the
carousel and the mode stay (R21, R68, R111, R143, R150). -/
def Obligations.ClearLineEmptiesTheLine : Prop :=
  ∀ (s w : State) (tag : Byte), s.Takes w 0x44 tag [] →
    (w.line.mode ∈ [LineMode.running, .service] →
      exec (.clearLine tag []) s = .next (w.answered 0x44 tag .mode .none).finish) ∧
    (w.line.mode ∈ [LineMode.paused, .stopped] → (w.book.orders.map Order.number).Nodup →
      ∃ t : State,
        exec (.clearLine tag []) s = .next (t.answered 0x44 tag .ok (.cleared
          ((w.book.orders.filter w.onLine).countP fun o => w.lossOf o == .interrupted)
          ((w.book.orders.filter w.onLine).countP fun o => w.lossOf o == .queued)
          ((w.book.orders.filter w.onLine).countP fun o => w.lossOf o == .freed))).finish ∧
        t.station = w.station.clearedLine ∧ t.conveyor = Conveyor.start ∧ t.lidder = w.lidder.clearedLine ∧
        t.intake = w.intake.clearedLine ∧
        t.bayOne = w.bayOne.clearedLine (w.moment + 1) ∧ t.bayTwo = w.bayTwo.clearedLine (w.moment + 1) ∧
        t.moment = w.moment + 1 ∧
        t.weigh = { w.weigh with settling := false, span := [], last := none } ∧
        t.book.admission = w.book.admission ∧ t.book.lastTin = w.book.lastTin ∧
        (t.book.slot = w.book.slot ∨ t.book.slot = none ∧ ∃ o ∈ w.book.orders, w.onLine o = true ∧
          o.pendingEnd ≠ none ∧ w.book.slot = some o.number) ∧
        (∀ l : Lane,
          (w.lanes[l].state = .reserved →
            t.lanes[l] = { state := if w.lanes[l].present then .clearing else .empty, tin := none,
                           present := w.lanes[l].present }) ∧
          (w.lanes[l].state ≠ .reserved →
            (∀ o ∈ w.book.orders, w.onLine o = true → o.pendingEnd ≠ none →
              w.lanes[l].tin.map TinRef.order ≠ some o.number) → t.lanes[l] = w.lanes[l])) ∧
        { t with
            notices := w.notices, book := w.book, station := w.station, conveyor := w.conveyor
            lidder := w.lidder, intake := w.intake, bayOne := w.bayOne, bayTwo := w.bayTwo, weigh := w.weigh
            lanes := w.lanes, moment := w.moment } = w ∧
        ∀ o ∈ w.book.orders,
          (w.onLine o = false → t.order? o.number = some o) ∧
          (w.onLine o = true →
            (o.pendingEnd ≠ none → t.order? o.number = none) ∧
            (o.pendingEnd = none → o.receivedColourant (w.keptPlan o) = true →
              t.order? o.number = some { o with
                state := .interrupted, tin := none, fault := none, beforeHold := none
                partialPlan := (w.keptPlan o).map PlanContext.toPartial }) ∧
            (o.pendingEnd = none → o.receivedColourant (w.keptPlan o) = false →
              ∃ q, t.order? o.number = some q ∧ q.state = .queued ∧ q.tin = none ∧ q.fault = none ∧
                q.partialPlan = none ∧ q.route = { dispense := true, mix := true, lid := true })))

/-- An opening of the e-stop chain: STOPPED and latched, the carousel stopped where it was, and no block left that
moves anything; an ESTOP notice with the mode before, then LINE_MODE, then what the blocks append, each block's own in
their order; the station, each RUNNING transfer, each working bay and the lidder HALTED, each with its ESTOP against its
order and what its RETRY takes up, a stroke cut off counted and its entry PARTIAL; in STOPPED only the chain reading and the
latch change (R56, R92, R118, R127, R138, R148). The order of the blocks' notices is free (log 9); the outputs of a
HALTED bay are those of log 28. That a homing cut off after the mark is
UNHOMED is the model's reading (log 61). -/
def Obligations.ChainOpeningStopsTheLine : Prop :=
  ((∀ (s u : State) (count i : Option Nat) (r : ResumePoint),
     ((s.station.state, r) ∈ [(StationState.planning, ResumePoint.next), (.moving, .homing),
         (.waitCanister, .strokeCheck), (.awaitManual, .manualStep)] ∧ u = s ∧ i = s.curIndex ∨
       s.station.state = .taring ∧ u = s.abandonSettle ∧ i = none ∧ r = .tare ∨
       s.station.state ∈ [StationState.settling, .verifying] ∧ s.station.settleFor = .phaseStart ∧
         u = s.abandonSettle ∧ i = s.curIndex ∧ r = .startReading ∨
       (∃ c e, s.current? = some (c, e) ∧ i = some c.index ∧
         (s.station.state = .stroking ∧ u = (s.endStroke count).setEntry c.index .partialShot ∧ r = .serve ∨
           s.station.state ∈ [StationState.settling, .verifying] ∧ s.station.settleFor ≠ .phaseStart ∧
             u = (if c.phase = .manual then s.abandonSettle else s.abandonSettle.setEntry c.index .partialShot) ∧
             r = .verdict))) →
     s.stopUnit count .station = ((u.hold s.served .dispense .estop false i).notify
       (.stationFault s.served .dispense .estop i u.pendingManual .none)).modStation fun st =>
         { st with state := .halted, resume := some r, finding := none, awaitHoming := false }) ∧
   (∀ (s : State) (count : Option Nat),
     (s.station.state ∈ [StationState.idle, .receiving, .pausedHold, .faultHeld, .complete, .sending,
       .awaitRemakeTin, .clearing, .halted] → s.stopUnit count .station = s) ∧
     (∀ d t, s.record d = some t →
       (t.state = .running → s.stopUnit count (.transfer d) =
         ((s.setRecord d (some { t with state := .halted, retried := false })).hold t.order d .estop true
           none).notify (.stationFault t.order d .estop none 0 .none)) ∧
       (t.state ≠ .running → s.stopUnit count (.transfer d) = s)) ∧
     (∀ b t, (s.bay b).tin = some t →
       ((s.bay b).state ∈ [BayState.clamping, .unclamping] → s.stopUnit count (.bay b) =
         ((s.modBay b fun y => { y with state := .halted, clamp := .stopped, brake := true }).hold t.order (.bay b)
           .estop false none).notify (.stationFault t.order (.bay b) .estop none 0 .none)) ∧
       ((s.bay b).state ∈ [BayState.spinning, .braking] → s.stopUnit count (.bay b) =
         ((s.modBay b fun y => { y with state := .halted, cause := none, brake := true }).hold t.order (.bay b)
           .estop false none).notify (.stationFault t.order (.bay b) .estop none 0 .none))) ∧
     (∀ b, (s.bay b).state ∈ [BayState.empty, .loading, .ready, .fault, .halted, .clearing] →
       s.stopUnit count (.bay b) = s) ∧
     (∀ t r, s.lidder.tin = some t → (s.lidder.state, r) ∈ [(LidderState.placing, LidResume.place),
         (.pressing, .press), (.checking, .press)] →
       s.stopUnit count .lidder = ((s.modLidder fun l => { l with state := .halted, resume := some r }).hold t.order
         .lidder .estop false none).notify (.stationFault t.order .lidder .estop none 0 .none)) ∧
     (s.lidder.state ∈ [LidderState.idle, .receiving, .dischargeWait, .sending, .waitLids, .fault, .halted,
       .clearing] → s.stopUnit count .lidder = s))) ∧
  ∀ (s : State) (count : Option Nat) (travelled : Nat), s.supply.warned = false →
    (s.line.mode = .stopped → exec (.estopChainOpen count travelled) s =
      .next ({ s with line := { s.line with chainOpen := true, latch := true } } : State).finish) ∧
    (s.line.mode ≠ .stopped → ∃ (t v u : State) (units : List StopUnit) (own : List NoticeBody),
      exec (.estopChainOpen count travelled) s = .next t.finish ∧
      units = [.station, .transfer .dispense, .transfer (.bay .one), .transfer (.bay .two), .transfer .lidder,
        .transfer .outlet, .bay .one, .bay .two, .lidder] ∧
      v = { s with
        line := { mode := .stopped, pendingMode := none, latch := true, chainOpen := true }
        positioner := s.positioner.stopped travelled } ∧
      u = units.foldl (State.stopUnit count) v ∧
      t = { u with notices := t.notices, freeCount := t.freeCount } ∧
      t.notices = own.foldl queueNotice
        (queueNotice (queueNotice s.notices (.estop s.line.mode)) (.lineMode .stopped none)) ∧
      own.Perm (v.gatherStops count units).2.flatten ∧ (∀ l ∈ (v.gatherStops count units).2, l.Sublist own) ∧
      t.line = { mode := .stopped, pendingMode := none, latch := true, chainOpen := true } ∧
      t.positioner = s.positioner.stopped travelled ∧
      t.station.state ∉ [StationState.taring, .planning, .moving, .stroking, .settling, .verifying,
        .waitCanister] ∧
      t.conveyor.atRest = true ∧ t.bayOne.state.atRest = true ∧ t.bayTwo.state.atRest = true ∧
      t.lidder.state.atRest = true ∧ t.startsAllowed = false ∧
      t.intake = s.intake ∧ t.lanes = s.lanes ∧ t.classes = s.classes ∧ t.settings = s.settings ∧
      t.supply = s.supply ∧ t.link = s.link ∧ t.lidder.magazines = s.lidder.magazines ∧
      (s.station.state ≠ .stroking → t.canisters = s.canisters)) ∧
    (exec .estopChainClose s =
      .next ({ s with line := { s.line with chainOpen := false } } : State).finish)

/-! ## Intake and conveyor -/

/-- Binding takes the order in the return slot when it is of the tin's class and has no tracked tin, else the QUEUED rush
order of the class with the smallest admission sequence, else the QUEUED ordinary one; and it writes a tin id from 1 to
255 that no live order holds, BOUND with its ORDER_STATE, the slot, and the intake with its request (R12, R13). -/
def Obligations.BindingTakesAndBindsTheFirstMatchingOrder : Prop :=
  (∀ (s : State) (cls : TinClass),
     (∀ n o, s.book.slot = some n → s.order? n = some o → o.cls = cls → o.tin = none →
       s.bindable cls = some (o, true)) ∧
     (∀ o b, s.bindable cls = some (o, b) → o.cls = cls ∧
       (b = true → ∃ n, s.book.slot = some n ∧ s.order? n = some o ∧ o.tin = none) ∧
       (b = false → o ∈ s.book.orders ∧ o.state = .queued ∧
         (∀ q ∈ s.book.orders, q.state = .queued → q.cls = cls → q.rush = o.rush → o.admission ≤ q.admission) ∧
         (o.rush = false → ∀ q ∈ s.book.orders, q.state = .queued → q.cls = cls → q.rush = false))) ∧
     (s.bindable cls = none → ∀ q ∈ s.book.orders, q.state = .queued → q.cls ≠ cls)) ∧
  (∀ (s : State) (n : Nat) (o : Order) (fromSlot : Bool), s.order? n = some o → o.state ≠ .bound →
     s.book.orders.length ≤ 32 →
     ∃ id, 1 ≤ id ∧ id ≤ 255 ∧ (∀ q ∈ s.book.orders, q.tin ≠ some id) ∧
       s.bindOrder n fromSlot = { s with
         book := (s.bindOrder n fromSlot).book
         notices := queueNotice s.notices (.orderState n .bound id o.pendingEnd)
         intake := { s.intake with state := .bound, bound := some n }
         conveyor := { s.conveyor with intakeRequest := true } } ∧
       (s.bindOrder n fromSlot).order? n = some { o with tin := some id, fromSlot := fromSlot, state := .bound } ∧
       (∀ m, m ≠ n → (s.bindOrder n fromSlot).order? m = s.order? m) ∧
       (s.bindOrder n fromSlot).book.lastTin = id ∧
       (s.bindOrder n fromSlot).book.slot = (if fromSlot then none else s.book.slot))

/-- INTAKE_TIN_PLACED: refused when lidded, WAITING while the gate is closed, else bound or refused for want of an order;
INTAKE_BIND_RETRY attempts again what waits or was refused for want of an order; the lift of a tin returns its order to
QUEUED, to the slot it came from, or to INTERRUPTED when the slot was filled again (R11 to R13). -/
def Obligations.IntakeTakesAndLosesATin : Prop :=
  ((∀ (s : State) (cls : TinClass), s.supply.warned = false → s.intake.state ≠ .bound →
     exec (.intakeTinPlaced cls true) s = .next ({ s with
       intake := { state := .refused, cls := cls, lidded := true, reason := .lidded, bound := none,
                   present := true }
       notices := queueNotice s.notices (.liddedTin .intake) } : State).finish ∧
     (s.startsAllowed = false →
       exec (.intakeTinPlaced cls false) s = .next ({ s with
         intake := { s.intake with state := .waiting, cls := cls, lidded := false, bound := none,
                                   present := true } } : State).finish) ∧
     (s.startsAllowed = true → s.bindable cls = none →
       exec (.intakeTinPlaced cls false) s = .next ({ s with
         intake := { state := .refused, cls := cls, lidded := false, reason := .noOrderForTin, bound := none,
                     present := true }
         notices := queueNotice s.notices (.noOrderForTin .intake cls) } : State).finish) ∧
     (∀ o b, s.startsAllowed = true → s.bindable cls = some (o, b) →
       exec (.intakeTinPlaced cls false) s = .next (({ s with
         intake := { s.intake with cls := cls, lidded := false, present := true } } : State).bindOrder o.number
           b).finish)) ∧
   (∀ s : State, s.supply.warned = false → s.startsAllowed = true →
     (∀ o b, s.intake.state = .waiting ∨ s.intake.state = .refused ∧ s.intake.reason = .noOrderForTin →
       s.bindable s.intake.cls = some (o, b) →
       exec .intakeBindRetry s = .next (s.bindOrder o.number b).finish) ∧
     (s.intake.state = .waiting → s.bindable s.intake.cls = none →
       exec .intakeBindRetry s = .next ({ s with
         intake := { s.intake with state := .refused, reason := .noOrderForTin, bound := none }
         notices := queueNotice s.notices (.noOrderForTin .intake s.intake.cls) } : State).finish) ∧
     (s.intake.state = .refused → s.bindable s.intake.cls = none →
       exec .intakeBindRetry s = .next s.finish))) ∧
  ((∀ s : State, s.supply.warned = false → s.intake.state ≠ .bound →
     exec .intakeTinLifted s = .next ({ s with
       intake := { s.intake with state := .empty, bound := none, present := false } } : State).finish) ∧
   (∀ (s : State) (n : Nat) (o : Order), s.supply.warned = false → s.intake.state = .bound →
     s.intake.bound = some n → s.order? n = some o → o.state = .bound →
     ∃ (st : OrderState) (u : State),
       ((o.fromSlot = false ∧ st = .queued ∧ u.book.slot = s.book.slot) ∨
         (o.fromSlot = true ∧ s.book.slot = none ∧ st = .returning ∧ u.book.slot = some n) ∨
         (o.fromSlot = true ∧ s.book.slot ≠ none ∧ st = .interrupted ∧ u.book.slot = s.book.slot)) ∧
       exec .intakeTinLifted s = .next u.finish ∧
       u = { s with
         book := u.book
         notices := queueNotice s.notices (.orderState n st 0 o.pendingEnd)
         intake := { s.intake with state := .empty, bound := none, present := false }
         conveyor := { s.conveyor with intakeRequest := false } } ∧
       u.order? n = some { o with tin := none, state := st } ∧
       (∀ m, m ≠ n → u.order? m = s.order? m)))

/-- A transfer starts when its destination can take the tin: from the intake to the IDLE and empty station, from the
COMPLETE station to the bay chosen, from the lidder to the lowest free lane, and to an IDLE and empty lidder from the
head of its requesters (R13, R75, R91, R114, R131, R139). -/
def Obligations.TransfersStart : Prop :=
  ((∀ (s : State) (n id : Nat) (o : Order), s.supply.warned = false → s.startsAllowed = true →
     s.intake.state = .bound → s.intake.bound = some n → s.conveyor.intakeRequest = true →
     s.conveyor.toDispense = none → s.station.state = .idle → s.station.present = false →
     s.order? n = some o → o.tin = some id →
     exec (.transferStart .intake) s = .next ({ s with
       intake := { s.intake with state := .empty, bound := none }
       conveyor := { s.conveyor with
         intakeRequest := false
         toDispense := some (.started .intake n id none false none false) }
       station := { s.station with state := .receiving, order := some n } } : State).finish) ∧
   (∀ (s : State) (b : BayId) (n : Nat) (o : Order) (t : TinContext), s.supply.warned = false →
     s.startsAllowed = true → s.station.state = .complete → s.conveyor.stationRequest = true →
     s.station.order = some n → s.station.tin = some t → s.order? n = some o → s.chooseBay o.cls = some b →
     exec (.transferStart .station) s = .next
       (({ s with
           station := { s.station with state := .sending, plan := none, tin := none, freshNeeded := false }
           conveyor := { s.conveyor with stationRequest := false } } : State).setRecord (.bay b)
         (some (.started .dispense n t.id none true (some t) s.station.gentleRecord)) |>.modBay b fun y =>
           { y with reservation := some { order := n, tin := t.id } }).finish) ∧
   (∀ (s : State) (lane : Lane) (t : LidderTin), s.supply.warned = false → s.startsAllowed = true →
     s.lidder.state = .dischargeWait → s.conveyor.outletRequest = true → s.conveyor.toOutlet = none →
     s.lidder.tin = some t → s.lanes[lane].state = .empty → s.lanes[lane].present = false →
     (∀ l : Lane, l < lane → s.lanes[l].state ≠ .empty ∨ s.lanes[l].present = true) →
     exec (.transferStart .lidder) s = .next (({ s with
         lidder := { s.lidder with
           state := .sending, tin := none, arrived := false, lidOn := false, repressUsed := false }
         conveyor := { s.conveyor with
           outletRequest := false
           toOutlet := some (.started .lidder t.order t.tin (some lane) true none false) } } : State).modLane lane
         fun r => { r with state := .reserved, tin := some { order := t.order, tin := t.tin } }).finish)) ∧
  (∀ (s : State) (rest : List LidSource), s.supply.warned = false → s.startsAllowed = true →
     s.lidder.state = .idle → s.lidder.present = false → s.conveyor.toLidder = none →
     (∀ b t, s.lidder.requesters = .bay b :: rest → (s.bay b).tin = some t →
       exec .lidderTakeSource s = .next (({ s with
         lidder := { s.lidder with
           state := .receiving, requesters := rest, reserved := some t, arrived := false, resume := none }
         conveyor := { s.conveyor with
           toLidder := some (.started (.bay b) t.order t.tin none false none false) } } : State).emptyBay b).finish) ∧
     (∀ n t, s.lidder.requesters = .dispense :: rest → s.station.order = some n → s.station.tin = some t →
       exec .lidderTakeSource s = .next ({ s with
         lidder := { s.lidder with
           state := .receiving, requesters := rest, reserved := some { order := n, tin := t.id }
           arrived := false, resume := none }
         station := { s.station with state := .sending, plan := none, tin := none, freshNeeded := false }
         conveyor := { s.conveyor with
           stationRequest := false
           toLidder := some (.started .dispense n t.id none true (some t) s.station.gentleRecord) } }
             : State).finish))

/-- A RUNNING transfer ends as an arrival when its destination senses the tin and is jammed when its timer expires;
one JAMMED or HALTED only records that a tin came (R115, R116, R118). -/
def Obligations.TransfersEnd : Prop :=
  (∀ (s : State) (b : BayId) (t : Transfer) (cls : TinClass) (lid : Bool), s.supply.warned = false →
    s.record (.bay b) = some t →
    (t.state = .running →
      exec (.transferArrival (.bay b) cls lid) s = .next ((((s.modBay b fun y => { y with present := true }).setRecord
        (.bay b) none).bayArrival b t).tellSource t).finish) ∧
    (t.state ≠ .running →
      exec (.bayPresenceRise b) s = .next ((s.modBay b fun y => { y with present := true }).setRecord (.bay b)
        (some { t with arrived := true })).finish)) ∧
  (∀ (s : State) (t : Transfer) (cls : TinClass) (lid : Bool), s.supply.warned = false →
    s.record .dispense = some t →
    (t.state = .running →
      exec (.transferArrival .dispense cls lid) s = .next ((({ s with station := { s.station with
        size := cls, lid := lid, present := true } } : State).setRecord .dispense none).stationArrival.tellSource
          t).finish)) ∧
  (∀ (s : State) (t : Transfer) (cls : TinClass) (lid : Bool), s.supply.warned = false →
    s.record .lidder = some t → t.state = .running →
    exec (.transferArrival .lidder cls lid) s = .next ((({ s with lidder := { s.lidder with
      present := true } } : State).setRecord .lidder none).lidderArrival t |>.tellSource t).finish) ∧
  (∀ (s : State) (t : Transfer) (lane : Lane) (cls : TinClass) (lid : Bool), s.supply.warned = false →
    s.record .outlet = some t → t.state = .running → t.lane = some lane →
    exec (.transferArrival .outlet cls lid) s = .next ((((s.modLane lane fun r => { r with
      present := true }).setRecord .outlet none).laneArrival lane t).tellSource t).finish) ∧
  (∀ (s : State) (d : Dest) (t : Transfer), s.supply.warned = false → s.record d = some t → t.state = .running →
    exec (.transferTimeout d) s = .next (((s.setRecord d (some { t with
      state := .jammed, retried := false, sourceWaits := false })).faultAtDest t.order d .jam true).tellSource
        t).finish)

/-- What each destination makes of a tin that arrives: the station takes the first case of R75, a bay LOADING, the
lidder by the order's route, a lane COLLECT or CHECK by the LIDDED flag (R75, R121, R132, R133, R140). -/
def Obligations.ArrivalsAreTakenByTheirStations : Prop :=
  (∀ (s : State) (o : Order), s.order? s.served = some o →
    (o.pendingEnd ≠ none → s.stationArrival = s.enterClearing) ∧
    (o.pendingEnd = none → s.station.present = false →
      s.stationArrival = { s with station := { s.station with arrivalWaits := true } }) ∧
    ∀ u : State, o.pendingEnd = none → s.station.present = true →
      u = { s with station := { s.station with
        arrivalWaits := false
        tin := some { id := o.tin.getD 0, cls := o.cls, tare := none, last := none, entryStart := none,
                      lid := s.station.lid } } } →
      (s.station.lid = true → s.stationArrival = u.fault .lidded none .none) ∧
      (s.station.lid = false → o.route.dispense = true → s.stationArrival = u.settleTare) ∧
      (s.station.lid = false → o.route.dispense = false →
        s.stationArrival = ((u.modStation fun st => { st with
          gentle := o.route.mix && s.readGentle o }).changeOrder s.served .dispensed).offerTin)) ∧
  (∀ (s : State) (b : BayId) (t : Transfer) (o : Order), s.order? t.order = some o →
    s.bayArrival b t = (s.modBay b fun y => { y with
      state := .loading, reservation := none, tin := some { order := t.order, tin := t.tin }
      orderProfile := o.profile, gentle := t.gentle, mixDone := false }).changeOrder t.order .mixing) ∧
  (∀ (s : State) (t : Transfer) (o : Order) (u : State), s.order? t.order = some o →
    u = ({ s with lidder := { s.lidder with
      state := .receiving, tin := some { order := t.order, tin := t.tin, cls := o.cls }, reserved := none
      arrived := true, lidOn := false, repressUsed := false } } : State).changeOrder t.order .lidding →
    ((o.route.lid = true ∧ (o.lidOnly = true ∨ o.holdOpen = false)) →
      s.lidderArrival t = { u with lidder := { u.lidder with resume := some .place } }) ∧
    (¬(o.route.lid = true ∧ (o.lidOnly = true ∨ o.holdOpen = false)) →
      s.lidderArrival t = (u.modOrder t.order fun q => { q with
        route := { q.route with lid := false }, lidOnly := false }).dischargeWait)) ∧
  (∀ (s : State) (lane : Lane) (t : Transfer) (o : Order), s.order? t.order = some o →
    s.laneArrival lane t = (((s.modLane lane fun r => { r with
      state := if o.flags.lidded then .collect else .check
      tin := some { order := t.order, tin := t.tin } }).changeOrder t.order
        (if o.flags.lidded then .outlet else .check)).notify
          (.tinReady t.order t.tin lane o.flags.lidded)))

/-- The bay chosen for a class is eligible, and no other eligible bay has been EMPTY the longer; at equal times it is
bay 1. With none eligible no transfer starts and the request stays (R114, R120, R121). -/
def Obligations.BayChosenIsEmptyTheLonger : Prop :=
  (∀ (s : State) (cls : TinClass),
    (∀ b, s.chooseBay cls = some b →
      s.bayFree b = true ∧ (b = .two → cls ∈ [TinClass.A, .B, .C]) ∧
      ∀ c, c ≠ b → s.bayFree c = true → (c = .two → cls ∈ [TinClass.A, .B, .C]) →
        (s.bay b).emptySince ≤ (s.bay c).emptySince ∧
        ((s.bay b).emptySince = (s.bay c).emptySince → b = .one)) ∧
    (s.chooseBay cls = none → s.bayFree .one = false ∧
      (s.bayFree .two = false ∨ cls ∈ [TinClass.D, .E]))) ∧
  (∀ (s : State) (n : Nat) (o : Order), s.supply.warned = false → s.station.order = some n →
    s.order? n = some o → s.chooseBay o.cls = none →
    exec (.transferStart .station) s = .next s.finish)

/-! ## Mixing bays, lidder and outlet -/

/-- A bay begins its operation in LOADING; the spin runs only with the clamp closed on a present tin, each way a spin ends
brakes with its cause, and the end of braking unclamps or faults by that cause; the profile in force is the order's with
its duration, or with a GENTLE record GENTLE for the larger of two durations; a bay HALTED or in CLEARING lets its brake
go when the yoke stands (R122 to R129). That BAY_BRAKE_END reports this there is the model's choice (log 28). -/
def Obligations.BayOperates : Prop :=
  (∀ (s : State) (b : BayId), s.supply.warned = false → s.startsAllowed = true → (s.bay b).state = .loading →
     ((s.bay b).mixDone = false → (s.bay b).present = true → (s.bay b).clampClosed = false →
       exec (.bayBeginOperation b) s = .next (s.modBay b fun y => { y with
         state := .clamping, clamp := .closed, brake := false }).finish) ∧
     ((s.bay b).mixDone = false → (s.bay b).present = true → (s.bay b).clampClosed = true →
       exec (.bayBeginOperation b) s = .next (s.modBay b fun y => { y with
         state := .spinning, clamp := .closed, brake := false
         inForce := some (s.settings.spin y.orderProfile y.gentle) }).finish) ∧
     ((s.bay b).mixDone = false → (s.bay b).present = false →
       exec (.bayBeginOperation b) s = .next (s.bayFault b .clamp).finish) ∧
     ((s.bay b).mixDone = true → (s.bay b).clampClosed = true →
       exec (.bayBeginOperation b) s = .next (s.modBay b fun y => { y with
         state := .unclamping, cause := none, clamp := .opened, brake := false }).finish) ∧
     ((s.bay b).mixDone = true → (s.bay b).clampClosed = false →
       exec (.bayBeginOperation b) s = .next ((s.modBay b fun y => { y with brake := false }).bayReady b).finish)) ∧
  (∀ (s : State) (b : BayId), s.supply.warned = false →
     ((s.bay b).state = .clamping → (s.bay b).present = true →
       exec (.bayClampClosedRise b) s = .next (s.modBay b fun y => { y with
         state := .spinning, clamp := .closed, brake := false, clampClosed := true
         inForce := some (s.settings.spin y.orderProfile y.gentle) }).finish) ∧
     ((s.bay b).state = .clamping → (s.bay b).present = false →
       exec (.bayClampClosedRise b) s = .next
         ((s.modBay b fun y => { y with clampClosed := true }).bayFault b .clamp).finish) ∧
     ((s.bay b).state = .clamping →
       exec (.bayClampTimeout b) s = .next (s.bayFault b .clamp).finish) ∧
     ((s.bay b).state = .spinning →
       exec (.baySpinEnd b) s = .next (s.modBay b fun y => { y with
         state := .braking, mixDone := true, cause := some .spinEnd, brake := true }).finish ∧
       exec (.bayImbalanceTrip b) s = .next (s.modBay b fun y => { y with
         state := .braking, cause := some .imbalance, brake := true }).finish ∧
       exec (.bayClampClosedFall b) s = .next (s.modBay b fun y => { y with
         state := .braking, cause := some .clamp, brake := true, clampClosed := false }).finish ∧
       exec (.bayPresenceFall b) s = .next (s.modBay b fun y => { y with
         state := .braking, cause := some .clamp, brake := true, present := false }).finish) ∧
     ((s.bay b).state = .braking →
       ((s.bay b).cause = some .spinEnd → (s.bay b).clampClosed = true →
         exec (.bayBrakeEnd b) s = .next (s.modBay b fun y => { y with
           state := .unclamping, cause := none, clamp := .opened, brake := false }).finish) ∧
       ((s.bay b).cause = some .spinEnd → (s.bay b).clampClosed = false →
         exec (.bayBrakeEnd b) s = .next ((s.modBay b fun y => { y with brake := false }).bayReady b).finish) ∧
       ((s.bay b).cause = some .imbalance →
         exec (.bayBrakeEnd b) s = .next (s.bayFault b .imbalance).finish) ∧
       ((s.bay b).cause = some .clamp →
         exec (.bayBrakeEnd b) s = .next (s.bayFault b .clamp).finish)) ∧
     ((s.bay b).state ∈ [BayState.halted, .clearing] →
       exec (.bayBrakeEnd b) s = .next (s.modBay b fun y => { y with brake := false }).finish) ∧
     ((s.bay b).state = .unclamping →
       exec (.bayClampClosedFall b) s = .next
         ((s.modBay b fun y => { y with clampClosed := false }).bayReady b).finish ∧
       exec (.bayUnclampTimeout b) s = .next (s.bayFault b .clamp).finish)) ∧
  ∀ st : Settings,
    (st.spin .standard false = { profile := .standard, seconds := st.standard } ∧
      st.spin .long false = { profile := .long, seconds := st.long } ∧
      st.spin .gentle false = { profile := .gentle, seconds := st.gentle } ∧
      st.spin .short false = { profile := .short, seconds := st.short }) ∧
    (st.spin .standard true = { profile := .gentle, seconds := max st.standard st.gentle } ∧
      st.spin .long true = { profile := .gentle, seconds := max st.long st.gentle } ∧
      st.spin .gentle true = { profile := .gentle, seconds := st.gentle } ∧
      st.spin .short true = { profile := .gentle, seconds := max st.short st.gentle })

/-- A bay's fault, its READY and its clearing: the fault raised against the tin's order, MIX off the route and the
bay among the lidder's requesters, and a lifted tin's bay EMPTY with its brake off, since a moment later than every one
before it (R120, R121, R125, R126, R129, R131; logs 2 and 28). -/
def Obligations.BayFaultReadyAndClearing : Prop :=
  (∀ (s : State) (b : BayId) (t : TinRef) (k : FaultKind), (s.bay b).tin = some t →
    s.bayFault b k = (((s.modBay b fun y => { y with clamp := .opened, brake := false }).faultAtDest t.order (.bay b)
      k false).modBay b fun y => { y with state := .fault, cause := none }) ∧
    s.bayReady b = { ((s.modBay b fun y => { y with state := .ready, cause := none, clamp := .opened }).modOrder
      t.order fun o => { o with route := { o.route with mix := false } }) with
        lidder := { s.lidder with requesters := s.lidder.requesters ++ [.bay b] } }) ∧
  (∀ (s : State) (b : BayId), s.supply.warned = false →
    ((s.bay b).state ∈ [BayState.empty, .loading, .clamping, .braking, .unclamping, .ready, .fault, .halted] →
      exec (.bayPresenceFall b) s = .next (s.modBay b fun y => { y with present := false }).finish) ∧
    (∀ t, (s.bay b).state = .clearing → (s.bay b).tin = some t →
      exec (.bayPresenceFall b) s = .next (((s.modBay b fun y => { y with present := false }).reportLift
        t.order).emptyBay b).finish) ∧
    (s.record (.bay b) = none →
      exec (.bayPresenceRise b) s = .next (s.modBay b fun y => { y with present := true }).finish)) ∧
  (∀ (s : State) (b : BayId), (s.emptyBay b).bay b = { s.bay b with
      state := .empty, tin := none, reservation := none, inForce := none, gentle := false, mixDone := false
      cause := none, emptySince := s.moment + 1, brake := false } ∧
    (s.emptyBay b).moment = s.moment + 1)

/-- A placing takes a lid from the magazine of the tin's class; an empty magazine is counted 0 and waits with
LIDS_OUT; after LIDS_LOADED the placing begins; a press point presses again (R134, R137, R138). -/
def Obligations.LidderBeginsPlacing : Prop :=
  ∀ (s : State) (e : Bool) (t : LidderTin), s.supply.warned = false → s.startsAllowed = true →
    s.lidder.tin = some t → s.lidder.present = true →
    (((s.lidder.state = .receiving ∧ s.lidder.resume = some .place) ∨
        (s.lidder.state = .waitLids ∧ s.lidder.loaded = true)) →
      e = false → 1 ≤ s.lidder.magazines.count t.cls →
      ∃ m : Magazines, m.count t.cls = s.lidder.magazines.count t.cls - 1 ∧
        (∀ k, k ≠ t.cls → m.count k = s.lidder.magazines.count k) ∧
        exec (.lidderBeginPlacing e) s = .next ({ s with lidder := { s.lidder with
          state := .placing, resume := none, loaded := false, magazines := m } } : State).finish) ∧
    (s.lidder.state = .receiving → s.lidder.resume = some .place →
      (e = true ∨ s.lidder.magazines.count t.cls = 0) →
      ∃ m : Magazines, m.count t.cls = 0 ∧ (∀ k, k ≠ t.cls → m.count k = s.lidder.magazines.count k) ∧
        exec (.lidderBeginPlacing e) s = .next ({ s with
          lidder := { s.lidder with state := .waitLids, resume := none, loaded := false, magazines := m }
          notices := queueNotice s.notices (.lidsOut t.order t.cls 0) } : State).finish) ∧
    (s.lidder.state = .receiving → s.lidder.resume = some .press →
      exec (.lidderBeginPlacing e) s = .next ({ s with lidder := { s.lidder with
        state := .pressing, resume := none, repressUsed := false } } : State).finish) ∧
    (s.lidder.state = .waitLids → s.lidder.loaded = false →
      exec (.lidderBeginPlacing e) s = .next s.finish)

/-- The lid placed and pressed: a seated lid sets LIDDED, takes LID off the route and waits to discharge; an unseated
one is pressed once more and then raises SEAT, as does a placing that times out (R136, R137, R139). -/
def Obligations.LidPlacedPressedAndChecked : Prop :=
  ∀ (s : State) (t : LidderTin), s.supply.warned = false → s.lidder.tin = some t →
    (s.lidder.state = .placing →
      exec .lidPlaced s = .next ({ s with lidder := { s.lidder with
        state := .pressing, resume := none, lidOn := true, repressUsed := false } } : State).finish ∧
      exec .lidPlaceTimeout s = .next (({ s with lidder := { s.lidder with lidOn := false } } : State).faultAtDest
        t.order .lidder .seat false |>.modLidder fun l => { l with
          state := .fault, resume := none, loaded := false }).finish) ∧
    (s.lidder.state = .pressing →
      exec (.pressComplete true) s = .next ({ (s.modOrder t.order fun o => { o with
          flags := { o.flags with lidded := true }, route := { o.route with lid := false }
          lidOnly := false }) with
        lidder := { s.lidder with state := .dischargeWait, resume := none }
        conveyor := { s.conveyor with outletRequest := true } } : State).finish ∧
      (s.lidder.repressUsed = false →
        exec (.pressComplete false) s = .next ({ s with lidder := { s.lidder with
          state := .pressing, resume := none, repressUsed := true } } : State).finish) ∧
      (s.lidder.repressUsed = true →
        exec (.pressComplete false) s = .next ((s.faultAtDest t.order .lidder .seat false).modLidder fun l => { l with
          state := .fault, resume := none, loaded := false }).finish))

/-- The presence sensors of the lidder and of a lane: a rise on no RUNNING transfer is only recorded, one at the lane of a
RUNNING transfer is its arrival, a fall ends a clearing, and a lift from COLLECT frees the order COLLECTED (R115, R116,
R118, R129, R132, R141, R142; log 35). -/
def Obligations.LidderAndLaneSensors : Prop :=
  (∀ s : State, s.supply.warned = false →
    (s.record .lidder = none →
      exec .lidderPresenceRise s = .next
        ({ s with lidder := { s.lidder with present := true } } : State).finish) ∧
    (∀ t, s.record .lidder = some t → t.state ≠ .running →
      exec .lidderPresenceRise s = .next (({ s with lidder := { s.lidder with present := true } } : State).setRecord
        .lidder (some { t with arrived := true })).finish) ∧
    (s.lidder.state ≠ .clearing →
      exec .lidderPresenceFall s = .next
        ({ s with lidder := { s.lidder with present := false } } : State).finish) ∧
    (∀ t, s.lidder.state = .clearing → s.lidder.tin = some t →
      exec .lidderPresenceFall s = .next ((({ s with lidder := { s.lidder with present := false } } : State).reportLift
        t.order).modLidder fun l => { l with
          state := .idle, tin := none, reserved := none, arrived := false, lidOn := false, repressUsed := false
          resume := none, loaded := false }).finish)) ∧
  (∀ (s : State) (lane : Lane), s.supply.warned = false →
    ((∀ t, s.record .outlet = some t → t.lane ≠ some lane) →
      exec (.lanePresenceRise lane) s = .next
        (s.modLane lane fun r => { r with present := true }).finish) ∧
    (∀ t, s.record .outlet = some t → t.lane = some lane →
      (t.state = .running →
        exec (.lanePresenceRise lane) s = .next ((((s.modLane lane fun r => { r with present := true }).setRecord
          .outlet none).laneArrival lane t).tellSource t).finish) ∧
      (t.state ≠ .running →
        exec (.lanePresenceRise lane) s = .next ((s.modLane lane fun r => { r with present := true }).setRecord
          .outlet (some { t with arrived := true })).finish)) ∧
    (s.lanes[lane].state ∈ [LaneState.empty, .reserved] →
      exec (.lanePresenceFall lane) s = .next (s.modLane lane fun r => { r with present := false }).finish) ∧
    (∀ t o, s.lanes[lane].state = .collect → s.lanes[lane].tin = some t → s.order? t.order = some o →
      o.pendingEnd = none →
      exec (.lanePresenceFall lane) s = .next (((s.modLane lane fun r => { r with present := false }).freeOrder
        t.order .collected).modLane lane fun r => { r with state := .empty, tin := none }).finish) ∧
    (∀ t, s.lanes[lane].state = .check → s.lanes[lane].tin = some t → s.book.slot ≠ some t.order →
      exec (.lanePresenceFall lane) s = .next ((s.modLane lane fun r => { r with
        present := false, state := .empty, tin := none }).modOrder t.order fun o => { o with tin := none }).finish) ∧
    (∀ t, s.lanes[lane].state = .clearing → s.lanes[lane].tin = some t →
      exec (.lanePresenceFall lane) s = .next (((s.modLane lane fun r => { r with present := false }).reportLift
        t.order).modLane lane fun r => { r with state := .empty, tin := none }).finish))
/-! ## Dispense station, weigh cell and carousel -/

/-- The station's presence sensor: a rise is an arrival in flight, an arrival taken before, a remake's fresh tin, or
only a reading; a fall ends a settle without a reading or a clearing (R75, R95, R96, R100, R116). -/
def Obligations.StationSensesItsTin : Prop :=
  (∀ (s u : State) (cls : TinClass) (lid : Bool), s.supply.warned = false →
    u = { s with station := { s.station with size := cls, lid := lid, present := true } } →
    (∀ t, s.record .dispense = some t → t.state = .running →
      exec (.dispensePresenceRise cls lid) s = .next
        ((u.setRecord .dispense none).stationArrival.tellSource t).finish) ∧
    (∀ t, s.record .dispense = some t → t.state ≠ .running →
      exec (.dispensePresenceRise cls lid) s = .next
        (u.setRecord .dispense (some { t with arrived := true })).finish) ∧
    (s.record .dispense = none → s.station.state = .receiving → s.station.arrivalWaits = true →
      exec (.dispensePresenceRise cls lid) s = .next u.stationArrival.finish) ∧
    (s.record .dispense = none → s.station.state ≠ .awaitRemakeTin →
      (s.station.state = .receiving → s.station.arrivalWaits = false) →
      exec (.dispensePresenceRise cls lid) s = .next u.finish) ∧
    (∀ o, s.record .dispense = none → s.station.state = .awaitRemakeTin → s.order? s.served = some o →
      (lid = true → exec (.dispensePresenceRise cls lid) s = .next (u.notify (.liddedTin .dispense)).finish) ∧
      (lid = false → cls ≠ o.cls →
        exec (.dispensePresenceRise cls lid) s = .next (u.notify (.noOrderForTin .dispense cls)).finish) ∧
      (lid = false → cls = o.cls →
        exec (.dispensePresenceRise cls lid) s = .next (((u.assignTin o.number).modStation fun st => { st with
          freshNeeded := true
          tin := some { id := s.book.nextTin, cls := o.cls, tare := none, last := none, entryStart := none,
                        lid := false } }).settleTare).finish))) ∧
  (∀ (s u : State), s.supply.warned = false → u = { s with station := { s.station with present := false } } →
    (s.weigh.settling = true → s.weigh.span.length < 16 →
      exec .dispensePresenceFall s = .next
        (({ u with weigh := { s.weigh with settling := false, span := [] } } : State).handReading none).finish) ∧
    (s.weigh.settling = false → s.station.state ≠ .clearing →
      exec .dispensePresenceFall s = .next u.finish) ∧
    (∀ n, s.weigh.settling = false → s.station.state = .clearing → s.station.order = some n →
      exec .dispensePresenceFall s = .next ((u.reportLift n).modStation fun st => { st with
        state := .idle, order := none, tin := none, plan := none, cur := none, gentle := false
        freshNeeded := false }).finish))

/-- The weigh cell: a valid sample joins the stable span and drops all that lies more than 20 mg from it, an invalid
one empties it, 16 samples give the mean rounded half up to 10 mg, and a settle ends without a reading at its window
or at the scale fault; that the 16th sample leaves the settle to SETTLED_READING, and that one before it
changes nothing, are the model's choice (log 13). The reading becomes the tare, with the plan built or taken up or a PLAN fault, or the phase's start, or is judged (R65, R67,
R69, R76, R78, R98 to R101; logs 10 and 20). -/
def Obligations.WeighCellSettles : Prop :=
  (∀ (s u : State) (r : Option Nat) (o : Order), s.station.settleFor = .tare →
    u = (({ s with station := { s.station with
      tin := s.station.tin.map fun t => { t with tare := r, last := r }
      freshNeeded := r.isNone } } : State).changeOrder s.served .dispensing).modStation (fun st =>
        { st with state := .planning }) →
    u.order? u.served = some o →
    (∀ f, u.activePlan o = .error f → s.handReading r = ({ u.drawnInMotion with
      station := { u.station with plan := none } } : State).fault .plan none f.detail) ∧
    (∀ q, u.activePlan o = .ok q → s.handReading r = ((({ u.drawnInMotion with
      station := { u.station with plan := some q } } : State).modOrder u.served fun o => { o with
        partialPlan := none
        flags := { o.flags with clamped := o.flags.clamped || q.entries.any fun e => e.flags.clampedUp } }).serveNext)) ∧
    (∀ q, s.station.plan = some q → u.activePlan o = u.remakePlan o q u.shownPosition) ∧
    (∀ q, s.station.plan = none → o.partialPlan = some q → u.activePlan o = u.takeUp o q u.shownPosition) ∧
    (s.station.plan = none → o.partialPlan = none →
      (∀ i, u.buildPlan o.number o.currentRound o.scale o.currentLines o.available u.shownPosition = .error i →
        u.activePlan o = .error (.tooLarge i)) ∧
      (∀ q, u.buildPlan o.number o.currentRound o.scale o.currentLines o.available u.shownPosition = .ok q →
        (q.sum ≤ q.available → u.activePlan o = .ok q) ∧
        (q.available < q.sum → u.activePlan o = .error (.overSum q.sum q.available))))) ∧
  (∀ (s : State) (r : Option Nat), s.station.settleFor = .verdict → s.handReading r = s.verdictReading r) ∧
  (∀ (s : State) (r : Option Nat) (c : CurrentEntry) (t : TinContext), s.station.settleFor = .phaseStart →
    s.station.cur = some c → s.station.tin = some t → c.phase ≠ .manual →
    s.handReading r = ({ s with station := { s.station with
      freshNeeded := false
      tin := some { t with
        last := if r.isSome then r else t.last
        entryStart := if c.phase = .topup then t.entryStart else r }
      cur := some { c with start := r } } } : State).strokeCheck) ∧
  (∀ (s : State) (m : Nat) (out : Bool), s.supply.warned = false →
    (s.weigh.settling = true → s.weigh.span.length < 16 → out = false → s.weigh.fault = false → m ≤ 30000000 →
      ∃ kept rest, s.weigh.span = kept ++ rest ∧ (∀ x ∈ kept, x ≤ m + 20 ∧ m ≤ x + 20) ∧
        (∀ x, rest.head? = some x → m + 20 < x ∨ x + 20 < m) ∧
        exec (.weighSample m out) s = .next
          ({ s with weigh := { s.weigh with span := m :: kept } } : State).finish) ∧
    (s.weigh.settling = true → s.weigh.span.length < 16 → (out = true ∨ s.weigh.fault = true ∨ 30000000 < m) →
      exec (.weighSample m out) s = .next ({ s with weigh := { s.weigh with span := [] } } : State).finish) ∧
    (s.weigh.settling = false → exec (.weighSample m out) s = .next s.finish)) ∧
  (∀ s : State, s.supply.warned = false → s.weigh.settling = true → s.weigh.span.length = 16 →
    ∃ v, v = 10 * ((2 * s.weigh.span.sum + 160) / 320) ∧
      exec .settledReading s = .next (({ s with weigh := { s.weigh with
        settling := false, span := [], last := some v } } : State).handReading (some v)).finish) ∧
  (∀ s : State, s.supply.warned = false → s.weigh.settling = true → s.weigh.span.length < 16 →
    exec .settledReading s = .next s.finish ∧
    exec .settleWindowTimeout s = .next
      (({ s with weigh := { s.weigh with settling := false, span := [] } } : State).handReading none).finish ∧
    exec (.scaleFaultLineChange true) s = .next
      (({ s with weigh := { s.weigh with settling := false, span := [], fault := true } } : State).handReading
        none).finish) ∧
  (∀ s : State, s.supply.warned = false →
    exec (.scaleFaultLineChange false) s = .next
      ({ s with weigh := { s.weigh with fault := false } } : State).finish)

/-- A station in PAUSED_HOLD begins its resume point when starts are allowed: a settle for its purpose; for the next entry
the shot of the first automatic PENDING one, with its move; with no automatic one left the first MANUAL one, with a reading
first where it needs one, its MANUAL_STEP and the order MANUAL; with none left the round is DELIVERED and the tin offered to
a bay, or to the lidder without MIX; and an entry taken up again is served with the remainder computed for it (R7, R38, R55,
R77, R78, R88, R89, R91, R99; log 55). -/
def Obligations.StationResumesItsOperation : Prop :=
  (∀ (s : State) (r : ResumePoint) (x : StationState) (why : SettlePurpose), s.supply.warned = false →
    s.startsAllowed = true → s.station.state = .pausedHold → s.station.resume = some r →
    exec .dispenseResumeOperation s = .next (s.resumeAt r).finish ∧
    ((r, x, why) ∈ [(ResumePoint.tare, StationState.taring, SettlePurpose.tare),
        (.startReading, .settling, .phaseStart), (.verdict, .settling, .verdict)] →
      s.weigh.fault = false → s.station.present = true →
      exec .dispenseResumeOperation s = .next ({ s with
        station := { s.station with state := x, settleFor := why, resume := none }
        weigh := { s.weigh with settling := true, window := s.settings.window, span := [] } } : State).finish)) ∧
  (∀ (s : State) (o : Order) (q : PlanContext) (before after : List Entry) (e : Entry) (p : Position),
    s.supply.warned = false → s.startsAllowed = true → s.station.state = .pausedHold →
    s.station.resume = some .next → s.station.plan = some q → q.entries = before ++ e :: after →
    (∀ x ∈ before, x.flags.manual = true ∨ x.state.unfinished = false) →
    (∀ x ∈ before ++ after, x.state ≠ .partialShot) → s.order? s.served = some o → o.flags.lidded = false →
    e.flags.manual = false → e.state = .pending → e.delivered = 0 → e.topup = 0 → e.pos = some p →
    s.positioner.state = .homed → s.positioner.position ≠ p →
    exec .dispenseResumeOperation s = .next ({ s with
      station := { s.station with
        state := .moving, resume := none
        plan := some { q with entries := before ++ { e with state := .active, owed := none } :: after }
        cur := some { index := before.length, phase := .shot,
                      target := e.mass.map fun m => { mass := m, tol := e.tol },
                      judged := 0, carried := 0, start := none, strokes := strokesOf e.steps s.canisters[p].c,
                      ended := 0, counted := 0, delivered := 0, countPresent := true, topupUsed := false,
                      hostMass := none } }
      positioner := { s.positioner with
        state := .moving, move := some (moveRecord s.positioner.position p) } } : State).finish) ∧
  (∀ (s : State) (o : Order) (q : PlanContext), s.supply.warned = false → s.startsAllowed = true →
    s.station.state = .pausedHold → s.station.resume = some .next → s.station.plan = some q →
    s.order? s.served = some o → o.state ∈ [OrderState.dispensing, .manual] →
    (∀ e ∈ q.entries, e.state ∈ [EntryState.done, .skipped, .failed]) →
    ∃ u : State, exec .dispenseResumeOperation s = .next u.finish ∧
      u = { s with
        book := u.book
        notices := queueNotice s.notices (.orderState s.served .dispensed (o.tin.getD 0) o.pendingEnd)
        station := { s.station with state := .complete, cur := none, resume := none }
        conveyor := if o.route.mix = true then { s.conveyor with stationRequest := true } else s.conveyor
        lidder := if o.route.mix = true then s.lidder
          else { s.lidder with requesters := s.lidder.requesters ++ [.dispense] } } ∧
      u.order? s.served = some { o with
        state := .dispensed
        rounds := o.rounds.modify (o.rounds.length - 1) fun r => { r with delivered := true }
        delivered := o.delivered + (q.entries.map fun e =>
          if e.flags.manual = true then (if e.state = .done then e.volume else 0) else e.deliveredVolume).sum
        route := { o.route with dispense := false } } ∧
      ∀ m, m ≠ s.served → u.order? m = s.order? m) ∧
  (∀ (s : State) (o : Order) (q : PlanContext) (before after : List Entry) (e : Entry) (x : TinContext)
    (m v w : Nat), s.supply.warned = false → s.startsAllowed = true → s.station.state = .pausedHold →
    s.station.resume = some .next → s.station.plan = some q → q.entries = before ++ e :: after →
    (∀ x ∈ q.entries, x.state ∉ [EntryState.partialShot, .active] ∧ (x.flags.manual = false → x.state ≠ .pending)) →
    (∀ x ∈ before, x.state ≠ .pending) → e.flags.manual = true → e.state = .pending →
    s.order? s.served = some o → o.flags.lidded = false → s.station.tin = some x → m = e.measured.getD 0 →
    (m = 0 ∧ v = e.volume ∧ w = e.mass.getD 0 ∨
      ∃ t rho, 0 < m ∧ e.mass = some t ∧ s.densityOf e.code = some rho ∧ w = t - m ∧
        v = halfUp (w * 1000000) rho) →
    (∀ r, s.station.freshNeeded = false → x.last = some r → ∃ u : State,
      exec .dispenseResumeOperation s = .next u.finish ∧
      u = { s with
        book := u.book
        notices := (if o.state = .manual then [] else [NoticeBody.orderState s.served .manual (o.tin.getD 0)
          o.pendingEnd]).foldl queueNotice (queueNotice s.notices (.manualStep s.served before.length e.code v w
            e.round))
        station := { s.station with
          state := .awaitManual, resume := none, tin := some { x with entryStart := some r }
          plan := some { q with entries := before ++ { e with state := .active, owed := none } :: after }
          cur := some { index := before.length, phase := .manual,
                        target := e.mass.map fun t => { mass := t, tol := e.tol }, judged := m, carried := m,
                        start := some r, strokes := [], ended := 0, counted := 0, delivered := 0,
                        countPresent := true, topupUsed := false, hostMass := none } } } ∧
      u.order? s.served = some { o with state := .manual } ∧
      ∀ n, n ≠ s.served → u.order? n = s.order? n) ∧
    ((s.station.freshNeeded = true ∨ x.last = none) → s.weigh.fault = false → s.station.present = true →
      exec .dispenseResumeOperation s = .next ({ s with
        station := { s.station with
          state := .settling, resume := none, settleFor := .phaseStart
          plan := some { q with entries := before ++ { e with state := .active, owed := none } :: after }
          cur := some { index := before.length, phase := .manual,
                        target := e.mass.map fun t => { mass := t, tol := e.tol }, judged := m, carried := m,
                        start := none, strokes := [], ended := 0, counted := 0, delivered := 0,
                        countPresent := true, topupUsed := false, hostMass := none } }
        weigh := { s.weigh with settling := true, window := s.settings.window, span := [] } } : State).finish)) ∧
  (∀ (s : State) (c : CurrentEntry) (q : PlanContext) (o : Order) (e : Entry) (p : Position) (d : Remainder),
    s.supply.warned = false → s.startsAllowed = true → s.station.state = .pausedHold →
    s.station.resume = some .serve → s.station.cur = some c → s.station.plan = some q →
    q.entries[c.index]? = some e → s.order? s.served = some o → o.flags.lidded = false → e.flags.manual = false →
    e.state = .active → e.owed = some d → e.pos = some p → s.positioner.state = .homed → s.positioner.position ≠ p →
    exec .dispenseResumeOperation s = .next ({ s with
      station := { s.station with
        state := .moving, resume := none
        plan := some { q with entries := q.entries.set c.index { e with owed := none } }
        cur := some { index := c.index, phase := .remainder, target := some d.target, judged := 0, carried := 0,
                      start := none, strokes := d.strokes, ended := 0, counted := 0, delivered := 0,
                      countPresent := true, topupUsed := decide (0 < e.topup), hostMass := none } }
      positioner := { s.positioner with
        state := .moving, move := some (moveRecord s.positioner.position p) } } : State).finish)

/-- A move by R55: at most 12 places the shorter way, forward at 12, one expected pass exactly when the path crosses
between 23 and 0; and its end by R56: HOMED at the target when the passes are as expected, else LOST. That the carousel
then stands off the home mark is the model's choice (log 11, unsafe). -/
def Obligations.MovesTakeTheShorterWay : Prop :=
  (∀ a b : Position, a ≠ b →
    (moveRecord a b).origin = a ∧ (moveRecord a b).target = b ∧ (moveRecord a b).passes = 0 ∧
    1 ≤ (moveRecord a b).places ∧ (moveRecord a b).places ≤ 12 ∧
    (moveRecord a b).counted (moveRecord a b).places = b ∧
    ((moveRecord a b).places = 12 → (moveRecord a b).direction = .forward) ∧
    (moveRecord a b).expected = (if (moveRecord a b).direction = .forward
      then if a.val < b.val then 0 else 1 else if b.val < a.val then 0 else 1)) ∧
  (∀ (s : State) (m : MoveRecord), s.supply.warned = false → s.positioner.move = some m →
    (m.passes = m.expected → s.awaitsMove = false →
      exec .moveArrived s = .next ({ s with positioner := { s.positioner with
        state := .homed, position := m.target, move := none, onMark := false } } : State).finish) ∧
    (m.passes = m.expected → s.awaitsMove = true →
      exec .moveArrived s = .next (({ s with positioner := { s.positioner with
        state := .homed, position := m.target, move := none, onMark := false } } : State).beginPhase).finish) ∧
    (m.passes ≠ m.expected → s.awaitsMove = true →
      exec .moveArrived s = .next (({ s with positioner := { s.positioner with
        state := .lost, position := m.target, move := none, onMark := false } } : State).fault .lost s.curIndex
          .none).finish)) ∧
  (∀ (s : State) (m : MoveRecord) (k : Nat), s.supply.warned = false → s.positioner.state = .moving →
    s.positioner.move = some m → k ≤ m.places → s.awaitsMove = true →
    exec (.moveTimeout k) s = .next (({ s with positioner := { s.positioner with
      state := .lost, position := m.counted k, move := none } } : State).fault .lost s.curIndex .none).finish)

/-- Homing and the home mark: a pass is counted in a move, marks a homing, and makes a standing HOMED carousel LOST;
a homing that is complete makes position 0 HOMED and lets a pending RUN begin; one whose mark was not seen is FAILED
(R54, R55, R57, R145). That HOMING_COMPLETE is taken whether or not a pass was reported, that the timer is disregarded
after the mark, and that the carousel then stands off it, are the model's choice (log 11, unsafe). -/
def Obligations.HomingAndTheHomeMark : Prop :=
  (∀ (s : State) (m : Bool) (k : Option Nat), s.supply.warned = false →
    (∀ r, s.positioner.state = .moving → s.positioner.move = some r →
      exec (.homePass m k) s = .next ({ s with positioner := { s.positioner with
        move := some { r with passes := r.passes + 1 }, onMark := m } } : State).finish) ∧
    (s.positioner.state = .homing →
      exec (.homePass m k) s = .next ({ s with positioner := { s.positioner with
        markSeen := true, onMark := m } } : State).finish) ∧
    (s.positioner.state = .homed → s.station.state ≠ .stroking →
      exec (.homePass m k) s = .next ({ s with positioner := { s.positioner with
        state := .lost, onMark := m } } : State).finish) ∧
    (s.positioner.state ∈ [PositionerState.unhomed, .lost, .failed] →
      exec (.homePass m k) s = .next ({ s with positioner := { s.positioner with onMark := m } } : State).finish)) ∧
  (∀ s : State, s.supply.warned = false → s.positioner.state = .homing → s.station.awaitHoming = false →
    (s.line.pendingMode ≠ some .run →
      exec .homingComplete s = .next ({ s with positioner := { s.positioner with
        state := .homed, position := 0, move := none, markSeen := false, onMark := false } } : State).finish) ∧
    (s.line.pendingMode = some .run → s.line.mode = .paused →
      exec .homingComplete s = .next ({ s with
        positioner := { s.positioner with
          state := .homed, position := 0, move := none, markSeen := false, onMark := false }
        line := { s.line with mode := .running, pendingMode := none }
        notices := queueNotice s.notices (.lineMode .running none) } : State).finish) ∧
    (s.positioner.markSeen = false → s.line.pendingMode ≠ some .run →
      exec .homingTimeout s = .next ({ s with positioner := { s.positioner with state := .failed } }
        : State).finish) ∧
    (s.positioner.markSeen = true → exec .homingTimeout s = .next s.finish))

/-- What every stroke end does: the delivered steps are the count held to the stroke's steps, or those steps; the
canister is debited and its mark removed; a debit that leaves it DRY or LOW with the notice of that armed appends that
notice, DRY before LOW and never both, and disarms what it speaks for; the entry and the phase take the steps and the
count (R47 to R49, R81). -/
def Obligations.StrokeEndIsCountedAndDebited : Prop :=
  ∀ (s : State) (count : Option Nat) (x : CurrentEntry) (e : Entry) (p : Position) (g : Nat) (k : Canister) (v : Nat)
    (low dry : Bool), s.current? = some (x, e) → e.pos = some p → k = s.canisters[p] → v = k.level - g * k.d →
    low = decide (k.code ≠ 0 ∧ v < k.low * 1000000) → dry = decide (k.code ≠ 0 ∧ v - k.floor < k.m * k.d) →
    ((∃ k, count = some k ∧ g = min k (x.strokes.getD x.ended 0)) ∨
      (count = none ∧ g = x.strokes.getD x.ended 0)) →
    ((dry = true ∧ k.dryArmed = true) →
      (s.endStroke count).canisters[p] =
        { k with level := v, drawing := false, dryArmed := false, lowArmed := k.lowArmed && !low } ∧
      (s.endStroke count).notices = queueNotice s.notices (.canisterDry 0 p k.code v (v - k.floor) none)) ∧
    (¬(dry = true ∧ k.dryArmed = true) → (low = true ∧ k.lowArmed = true) →
      (s.endStroke count).canisters[p] = { k with level := v, drawing := false, lowArmed := false } ∧
      (s.endStroke count).notices = queueNotice s.notices (.canisterLow p k.code v k.low)) ∧
    (¬(dry = true ∧ k.dryArmed = true) → ¬(low = true ∧ k.lowArmed = true) →
      (s.endStroke count).canisters[p] = { k with level := v, drawing := false } ∧
      (s.endStroke count).notices = s.notices) ∧
    (∀ q : Position, q ≠ p → (s.endStroke count).canisters[q] = s.canisters[q]) ∧
    (s.endStroke count).current? = some
      ({ x with ended := x.ended + 1, delivered := x.delivered + g, counted := x.counted + count.getD 0
                countPresent := x.countPresent && count.isSome },
       { e with delivered := e.delivered + g, deliveredVolume := e.deliveredVolume + g * e.d }) ∧
    (s.endStroke count).book = s.book ∧ (s.endStroke count).positioner = s.positioner ∧
    (s.endStroke count).station.state = s.station.state ∧ (s.endStroke count).lanes = s.lanes

/-- A stroke's end by its event: a completion goes on to the next stroke or to the verification; an expiry, a pass of the
home mark and an unseated canister halt it with their faults, its entry PARTIAL. Outside a stroke a switch that opens
is told of a configured position, and one that closes is recorded and reaches a stroke that waits (R50, R58, R80 to
R82). -/
def Obligations.StrokeEndsByItsEvent : Prop :=
  (∀ (s : State) (count : Option Nat) (x : CurrentEntry) (e : Entry) (o : Order), s.supply.warned = false →
     s.station.state = .stroking → s.current? = some (x, e) → s.order? s.served = some o → o.pendingEnd = none →
     (∀ n, x.strokes[x.ended]? = some n → (∀ k, count = some k → n ≤ k) → x.ended + 1 < x.strokes.length →
       exec (.pumpComplete count) s = .next ((s.endStroke count).strokeCheck).finish) ∧
     ((∀ k n, count = some k → x.strokes[x.ended]? = some n → n ≤ k) → x.strokes.length = x.ended + 1 →
       exec (.pumpComplete count) s = .next ((s.endStroke count).settleVerdict).finish) ∧
     (∀ k n, count = some k → x.strokes[x.ended]? = some n → k < n →
       exec (.pumpComplete count) s = .next ((s.endStroke count).settleVerdict).finish) ∧
     exec (.strokeTimeout count) s = .next
       (((s.endStroke count).setEntry x.index .partialShot).fault .stall (some x.index) .none).finish ∧
     (∀ m, s.positioner.state = .homed →
       exec (.homePass m count) s = .next (((({ s with positioner := { s.positioner with
         state := .lost, onMark := m } } : State).endStroke count).setEntry x.index .partialShot).fault .lost
           (some x.index) .none).finish) ∧
     (∀ p : Position, s.canisters[p].drawing = true → s.canisters[p].code ≠ 0 →
       exec (.seatedSwitchOpen p count) s = .next ((((((s.modCanister p fun c => { c with seated := false }).notify
         (.canisterUnseated 0 [p] s.canisters[p].code)).endStroke count).setEntry x.index .partialShot).fault
           .unseated (some x.index) .none)).finish)) ∧
  (∀ (s : State) (p : Position) (count : Option Nat), s.supply.warned = false → s.station.state ≠ .stroking →
     (s.canisters[p].code ≠ 0 →
       exec (.seatedSwitchOpen p count) s = .next ((s.modCanister p fun c => { c with seated := false }).notify
         (.canisterUnseated 0 [p] s.canisters[p].code)).finish) ∧
     (s.canisters[p].code = 0 →
       exec (.seatedSwitchOpen p count) s = .next (s.modCanister p fun c => { c with seated := false }).finish) ∧
     ((s.canisters[p].code = 0 ∨ s.station.state ≠ .waitCanister) →
       exec (.seatedSwitchClose p) s = .next (s.modCanister p fun c => { c with seated := true }).finish) ∧
     (∀ x e, s.canisters[p].code ≠ 0 → s.station.state = .waitCanister → s.current? = some (x, e) →
       e.pos = some p →
       exec (.seatedSwitchClose p) s = .next ((s.modCanister p fun c => { c with seated := true }).recheck).finish))

/-- Every stroke begun, the first of a phase by any command and each next one at the completion of the one before, has
found the stroke-start check READY: the carousel HOMED at the entry's position, the order not LIDDED, the canister of the
entry's code, seated, confirmed and holding the stroke's steps; and the position is marked drawing (R40, R58, R78, R79,
R81). -/
def Obligations.StrokeBeginsOnlyWhenReady : Prop :=
  ∀ (c : Instr) (s t : State), exec c s = .next t →
    (s.station.state ≠ .stroking ∨
      s.supply.warned = false ∧ ∃ k x e, c = .pumpComplete k ∧ s.current? = some (x, e) ∧ e.pos ≠ none) →
    t.station.state = .stroking →
    ∃ x e p steps, t.current? = some (x, e) ∧ e.pos = some p ∧ x.strokes[x.ended]? = some steps ∧
      t.positioner.state = .homed ∧ t.positioner.position = p ∧ t.servedLidded = false ∧
      t.canisters[p].code = e.code ∧ e.code ≠ 0 ∧ t.canisters[p].seated = true ∧
      t.canisters[p].confirmed = true ∧ steps * t.canisters[p].d ≤ t.canisters[p].level - t.canisters[p].floor ∧
      t.canisters[p].drawing = true

/-! ## Supply loss and start-up -/

/-- The supply warning: every block stops and is HALTED without a notice, the requests and transfers are gone, the
clean mark is set, and orders, tables and magazines stay (R93, R118, R127, R138, R157, R169, R170). That a homing
cut off after the mark is UNHOMED is the model's reading (log 61). -/
def Obligations.SupplyWarningSecuresTheState : Prop :=
  ∀ (s : State) (count : Option Nat) (travelled : Nat), s.supply.warned = false →
    ∃ t : State, exec (.supplyWarning count travelled) s = .next t ∧
      t.supply = { s.supply with warned := true, clean := true, saving := none } ∧
      t.book = s.book ∧ t.notices = s.notices ∧ t.classes = s.classes ∧ t.settings = s.settings ∧
      t.lanes = s.lanes ∧ t.intake = s.intake ∧
      t.lidder.magazines = s.lidder.magazines ∧
      t.line = { s.line with pendingMode := none } ∧
      t.link = { s.link with rx := [], queue := [], rts := false, tx := .idle } ∧
      (∀ d, t.record d = none) ∧ t.positioner = s.positioner.stopped travelled ∧
      t.station.state = .halted ∧ t.weigh.settling = false ∧
      t.bayOne.state.atRest = true ∧ t.bayTwo.state.atRest = true ∧ t.lidder.state.atRest = true ∧
      (s.station.state ≠ .stroking → t.canisters = s.canisters ∧ t.station.plan = s.station.plan) ∧
      (∀ x e, s.station.state = .stroking → s.current? = some (x, e) →
        t.canisters = (s.endStroke count).canisters ∧
        t.entry? x.index = ((s.endStroke count).setEntry x.index .partialShot).entry? x.index)

/-- A cold start taken whole with the e-stop chain closed: an empty book, the tables of a valid flash image or blank
ones, every block at its start, and STARTED the only notice (R51, R59, R97, R111, R130, R143, R156, R169, R174,
R175). -/
def Obligations.ColdStartTakenWhole : Prop :=
  ∀ (s : State) (x : Sensors), x.chainOpen = false →
    ∃ (t u : State), exec (.startUp x false none) s = .next t ∧ t = u.finish ∧
      u.book = { orders := [], admission := 0, lastTin := 0, slot := none } ∧
      u.notices = [{ body := .started false false, count := 1 }] ∧
      u.classes = (if s.supply.flashValid then s.supply.flash.classes else Vector.replicate 6 {}) ∧
      u.settings = (if s.supply.flashValid then s.supply.flash.settings else Settings.defaults) ∧
      (∀ p : Position, ∃ f : Canister, f = (if s.supply.flashValid then s.supply.flash.canisters[p] else {}) ∧
        u.canisters[p] = { f with
          seated := x.seated[p], confirmed := false, mark := 0, drawing := false
          lowArmed := f.configured && !f.isLow, dryArmed := f.configured && !f.isDry }) ∧
      u.supply = { s.supply with warned := false, clean := false, saving := none } ∧
      u.line = { mode := .paused, pendingMode := none, latch := false, chainOpen := false } ∧
      u.positioner = { state := .unhomed, position := 0, move := none, markSeen := false, onMark := x.homeMark } ∧
      u.conveyor = Conveyor.start ∧ u.weigh.settling = false ∧ u.weigh.last = none ∧
      u.weigh.fault = x.scaleFault ∧
      u.intake.state = (if x.intake then .clearing else .empty) ∧
      u.station.state = (if x.dispense then .clearing else .idle) ∧ u.station.order = none ∧
      u.bayOne.state = (if x.bayOne then .clearing else .empty) ∧
      u.bayTwo.state = (if x.bayTwo then .clearing else .empty) ∧
      u.lidder.state = (if x.lidder then .clearing else .idle) ∧ (∀ k, u.lidder.magazines.count k = 0) ∧
      (∀ l : Lane, u.lanes[l] =
        { state := if x.lanes[l] then .clearing else .empty, tin := none, present := x.lanes[l] }) ∧
      u.link.rx = [] ∧ u.link.queue = [] ∧ u.link.tx = .idle ∧ u.link.warnedMark = true ∧ u.link.cts = x.cts

/-- A warm start taken whole with the e-stop chain closed: tables and magazines kept, a configured canister found
unseated unconfirmed, and each order mapped by R173: flagged AMOUNT_UNKNOWN when the image is unclean and its plan holds
an ACTIVE entry, INTERRUPTED when it has then received colourant and QUEUED otherwise, with its plan as R68 keeps it (log
22), one in OUTLET or CHECK by what its lane senses; a start-up cut short by a warning leaves warned yes (R21, R59, R68,
R143, R156, R173, R175). -/
def Obligations.WarmStartMapsTheOrders : Prop :=
  (∀ (s : State) (x : Sensors), x.chainOpen = false → (s.book.orders.map Order.number).Nodup →
    ∃ (t u : State), exec (.startUp x true none) s = .next t ∧ t = u.finish ∧
      u.classes = s.classes ∧ u.settings = s.settings ∧ u.lidder.magazines = s.lidder.magazines ∧
      (∀ p : Position, u.canisters[p].level = s.canisters[p].level ∧ u.canisters[p].code = s.canisters[p].code ∧
        u.canisters[p].mark = s.canisters[p].mark ∧ u.canisters[p].drawing = false ∧
        u.canisters[p].seated = x.seated[p] ∧
        u.canisters[p].confirmed = (s.canisters[p].confirmed && (s.canisters[p].code == 0 || x.seated[p]))) ∧
      u.supply = { s.supply with warned := false, clean := false, saving := none } ∧
      u.line = { mode := .paused, pendingMode := none, latch := false, chainOpen := false } ∧
      u.positioner.state = .unhomed ∧ u.station.plan = none ∧ u.station.order = none ∧
      u.book.admission = s.book.admission ∧ u.book.lastTin = s.book.lastTin ∧
      (∀ o ∈ s.book.orders, ∀ doubt : Bool,
        doubt = (!s.supply.clean &&
          (s.stationPlan o.number).any fun q => q.entries.any fun e => e.state == .active) →
        (o.pendingEnd ≠ none → u.order? o.number = none) ∧
        (o.pendingEnd = none → o.state = .interrupted ∨ o.state = .queued →
          ∃ q, u.order? o.number = some q ∧ q.state = o.state ∧ q.rounds = o.rounds ∧
            q.partialPlan = o.partialPlan) ∧
        (o.pendingEnd = none →
          o.state ∈ [OrderState.bound, .dispensing, .manual, .held, .dispensed, .mixing, .lidding] →
          ∃ q, u.order? o.number = some q ∧ q.tin = none ∧ q.fault = none ∧
            q.flags = { o.flags with amountUnknown := o.flags.amountUnknown || doubt } ∧
            ((o.receivedColourant (s.keptPlan o) = true ∨ doubt = true) →
              q.state = .interrupted ∧ q.partialPlan = (s.keptPlan o).map PlanContext.toPartial) ∧
            (o.receivedColourant (s.keptPlan o) = false → doubt = false →
              q.state = .queued ∧ q.partialPlan = none)) ∧
        (o.pendingEnd = none → o.state = .outlet →
          ((∃ l : Lane, s.lanes[l].state = .collect ∧ x.lanes[l] = true ∧
              s.lanes[l].tin.map TinRef.order = some o.number) →
            ∃ q, u.order? o.number = some q ∧ q.state = .outlet ∧ q.tin = o.tin) ∧
          ((∀ l : Lane, s.lanes[l].state = .collect → x.lanes[l] = true →
              s.lanes[l].tin.map TinRef.order ≠ some o.number) → u.order? o.number = none)) ∧
        (o.pendingEnd = none → o.state = .check ∨ o.state = .returning →
          ((∃ l : Lane, s.lanes[l].state = .check ∧ x.lanes[l] = true ∧
              s.lanes[l].tin.map TinRef.order = some o.number) →
            ∃ q, u.order? o.number = some q ∧ q.state = o.state ∧ q.tin = o.tin) ∧
          ((∀ l : Lane, s.lanes[l].state = .check → x.lanes[l] = true →
              s.lanes[l].tin.map TinRef.order ≠ some o.number) →
            ∃ q, u.order? o.number = some q ∧ q.state = o.state ∧ q.tin = none)))) ∧
  (∀ (s : State) (x : Sensors) (m : Bool) (k : Fin 5),
    ∃ t : State, exec (.startUp x m (some k)) s = .next t ∧ t.supply.warned = true ∧
      t.supply.clean = s.supply.clean ∧ t.link.queue = [] ∧ t.link.rts = false ∧
      t.station.present = (if k.val = 0 then s.station.present else x.dispense) ∧
      (k.val ≤ 1 → t.book = s.book ∧ t.notices = s.notices))

/-! ## Dosing arithmetic and verdicts -/

/-- Rounding half up, and the mass and volume of an automatic entry made from it (R22, R28). -/
def Obligations.VolumeAndMassOfAnEntry : Prop :=
  (∀ a b, 0 < b → halfUp a b = (2 * a + b) / (2 * b)) ∧
  (∀ (s : State) (round line code : Nat) (p : Position) (r : Nat) (f : EntryFlags),
    (s.autoEntry round line code p r f).steps = r ∧
    (s.autoEntry round line code p r f).volume = r * s.canisters[p].d ∧
    (s.autoEntry round line code p r f).mass =
      some ((2 * (r * s.canisters[p].d * s.canisters[p].rho) + 1000000) / 2000000))

/-- The strokes of r steps on a canister of capacity c: as many as the quotient rounded up, together r steps, none
above c, the longer first and at most one step apart (R30). -/
def Obligations.StrokesDivideTheSteps : Prop :=
  ∀ r c, 0 < c →
    (strokesOf r c).length = (r + c - 1) / c ∧ (strokesOf r c).sum = r ∧
    (∀ n ∈ strokesOf r c, 1 ≤ n ∧ n ≤ c) ∧
    (strokesOf r c).Pairwise (fun a b => b ≤ a ∧ a ≤ b + 1)

/-- The verdict of an automatic phase: a short count first, then the mass within its tolerance, both ends included,
then the count alone; the increment, which is never below 0; and what each verdict does: PASS serves the next entry, a
first UNDER commands the top-up, any other raises its fault, and with a pending end the station clears instead. The
top-up takes the deficit's steps, or what the canister holds, the rest left to one manual addition for the line, by which
the target is lowered until no addition is given; one of 0 steps makes the entry DONE with an addition, FAILED without (R36,
R37, R83 to R86, R94, R102 to R105; log 43). That SHOT_DONE gives the judged mass as absent exactly without an increment
is the model's choice (log 29). -/
def Obligations.VerdictByEvidence : Prop :=
  (∀ (s u : State) (r inc : Option Nat) (c : CurrentEntry) (e : Entry) (o : Order) (v : Verdict),
    s.current? = some (c, e) → c.phase ≠ .manual → s.order? s.served = some o →
    inc = increment c.start r → v = verdictOf c e.flags.weigh inc →
    u = (((s.endReading r).setFlag s.served fun f => f.judged c e.flags.weigh inc).addMass c.index inc).shotDone v
      (inc.map fun d => c.judged + d) →
    (∀ st, o.pendingEnd ≠ none → (v, st) ∈ [(Verdict.pass, EntryState.done), (.stall, .partialShot),
        (.under, .failed), (.over, .failed), (.sensor, .failed), (.unweighed, .failed)] →
      s.verdictReading r = (u.setEntry c.index st).enterClearing) ∧
    (o.pendingEnd = none →
      (v = .pass → s.verdictReading r = (u.setEntry c.index .done).serveNext) ∧
      (v = .under → c.topupUsed = false → s.verdictReading r = u.commandTopUp) ∧
      (v = .under → c.topupUsed = true → s.verdictReading r =
        (u.setEntry c.index .failed).fault .under (some c.index) (.mass (c.judged + inc.getD 0) c.target)) ∧
      (∀ k st d, (v, k, st, d) ∈ [
          (Verdict.over, FaultKind.over, EntryState.failed, FaultDetail.mass (c.judged + inc.getD 0) c.target),
          (.stall, .stall, .partialShot, .none), (.sensor, .sensor, .failed, .none),
          (.unweighed, .unweighed, .failed, .none)] →
        s.verdictReading r = (u.setEntry c.index st).fault k (some c.index) d))) ∧
  (∀ (s : State) (c : CurrentEntry) (e : Entry) (p : Position) (t : Target) (q : PlanContext) (k : Canister)
    (full steps rest : Nat) (adds : Bool), s.current? = some (c, e) → e.pos = some p → c.target = some t →
    s.station.plan = some q → k = s.canisters[p] → k.code = e.code → e.code ≠ 0 →
    full = max k.m (halfUp ((t.mass - c.judged) * 1000000) (k.rho * k.d)) →
    (full * k.d ≤ k.level - k.floor → full ≠ 0 →
      s.commandTopUp = ({ s with station := { s.station with
        resume := none
        plan := some { q with entries := q.entries.set c.index { e with topup := e.topup + full, state := .active } }
        cur := some { c with
          phase := .topup, strokes := strokesOf full k.c, ended := 0, counted := 0, delivered := 0
          countPresent := true, topupUsed := true } } } : State).beginPhase) ∧
    (k.level - k.floor < full * k.d →
      steps = (if (k.level - k.floor) / k.d < k.m then 0 else (k.level - k.floor) / k.d) →
      rest = t.mass - c.judged - halfUp (steps * k.d * k.rho) 1000000 →
      adds = (decide (0 < rest) && !q.entries.any fun x => x.flags.topupManual && x.line == e.line) →
      (steps ≠ 0 → s.commandTopUp = ({ s with station := { s.station with
        resume := none
        plan := some { q with entries := q.entries.set c.index { e with
            topup := e.topup + steps, state := .active, additionGiven := e.additionGiven || adds } ++
          (if adds then [{
            round := e.round, line := e.line, code := e.code, pos := none, mark := 0, d := 0, rho := 0, steps := 0
            strokes := 0, volume := halfUp (rest * 1000000) k.rho, mass := some rest
            tol := max s.settings.tolAbs (halfUp (rest * s.settings.tolPm) 1000)
            flags := { manual := true, topupManual := true }, state := .pending }] else []) }
        cur := some { c with
          phase := .topup, strokes := strokesOf steps k.c, ended := 0, counted := 0, delivered := 0
          target := some { t with mass := if adds then t.mass - rest else t.mass + c.lowered }
          lowered := if adds then c.lowered + rest else 0
          countPresent := true, topupUsed := true } } } : State).beginPhase) ∧
      (steps = 0 → adds = true → s.commandTopUp = ((({ s with station := { s.station with
        resume := none
        plan := some { q with entries := (q.entries.set c.index { e with additionGiven := true } ++ [{
            round := e.round, line := e.line, code := e.code, pos := none, mark := 0, d := 0, rho := 0, steps := 0
            strokes := 0, volume := halfUp (rest * 1000000) k.rho, mass := some rest
            tol := max s.settings.tolAbs (halfUp (rest * s.settings.tolPm) 1000)
            flags := { manual := true, topupManual := true }, state := .pending }]) }
        cur := some { c with
          phase := .topup, strokes := [], ended := 0, counted := 0, delivered := 0
          target := some { t with mass := t.mass - rest }, lowered := c.lowered + rest
          countPresent := true, topupUsed := true } } } : State).setEntry c.index .done).shotDone .pass
            (some c.judged)).serveNext) ∧
      (steps = 0 → adds = false → s.commandTopUp = ({ s with station := { s.station with
        resume := none
        plan := some { q with entries := q.entries.set c.index { e with state := .failed } }
        cur := some { c with
          phase := .topup, strokes := [], ended := 0, counted := 0, delivered := 0
          target := some { t with mass := t.mass + c.lowered }, lowered := 0
          countPresent := true, topupUsed := true } } } : State).fault .under (some c.index)
            (.mass c.judged (some { t with mass := t.mass + c.lowered }))))) ∧
  (∀ a b : Nat, increment (some a) (some b) = some (if a ≤ b then b - a else 0)) ∧
  (∀ a : Option Nat, increment a none = none ∧ increment none a = none) ∧
  ∀ (c : CurrentEntry) (weigh : Bool) (inc : Option Nat),
    (c.countPresent = true → c.counted < c.strokes.sum → verdictOf c weigh inc = .stall) ∧
    ((c.countPresent = false ∨ c.strokes.sum ≤ c.counted) →
      (∀ d t, inc = some d → c.target = some t →
        (verdictOf c weigh inc = .pass ↔ t.mass ≤ c.judged + d + t.tol ∧ c.judged + d ≤ t.mass + t.tol) ∧
        (verdictOf c weigh inc = .under ↔ c.judged + d + t.tol < t.mass) ∧
        (verdictOf c weigh inc = .over ↔ t.mass + t.tol < c.judged + d)) ∧
      (inc = none → c.countPresent = true → verdictOf c weigh inc = if weigh then .unweighed else .pass) ∧
      (inc = none → c.countPresent = false → verdictOf c weigh inc = .sensor))

/-! ## Invariants -/

/-- Every step keeps the line mode unit sound: the latch stands exactly in STOPPED, which has no pending request, and
a working controller with an open chain is STOPPED (R144, R148, R149, R156). -/
def Obligations.LineInvKeptByEveryStep : Prop :=
  ∀ s t : State, s.LineInv → step s = .next t → t.LineInv

/-- Every step keeps the queues, the book and the tables within their bounds: at most 4 requests, 64 notices and 32 live
orders, no two of one number; no configured canister above its capacity, settings in range, in use and in the flash
store, and no magazine above 80 lids (R1, R40, R110, R123, R135, R160, R163, R176). -/
def Obligations.BoundsKeptByEveryStep : Prop :=
  ((∀ s t : State, s.QueueInv → step s = .next t → t.QueueInv) ∧
   (∀ s t : State, s.BookInv → step s = .next t → t.BookInv)) ∧
  (∀ s t : State, s.TablesInv → step s = .next t → t.TablesInv)

/-- The invariants hold after reset. -/
def Obligations.InvariantsHoldAfterReset : Prop :=
  State.reset.LineInv ∧ State.reset.QueueInv ∧ State.reset.BookInv ∧ State.reset.TablesInv
end

