-- ==== Sys2Proof/Laws/State.lean ====
section
/-! SUPPORT. What each named update of the state does to each of its fields. -/

namespace Sys2Proof.Machine

variable (s : State)

/-! ## `State.notify` -/

@[simp] theorem State.notify_pending (b : NoticeBody) : (s.notify b).pending = s.pending := rfl
@[simp] theorem State.notify_link (b : NoticeBody) : (s.notify b).link = s.link := rfl
@[simp] theorem State.notify_notices (b : NoticeBody) : (s.notify b).notices = queueNotice s.notices b := rfl
@[simp] theorem State.notify_book (b : NoticeBody) : (s.notify b).book = s.book := rfl
@[simp] theorem State.notify_intake (b : NoticeBody) : (s.notify b).intake = s.intake := rfl
@[simp] theorem State.notify_canisters (b : NoticeBody) : (s.notify b).canisters = s.canisters := rfl
@[simp] theorem State.notify_classes (b : NoticeBody) : (s.notify b).classes = s.classes := rfl
@[simp] theorem State.notify_settings (b : NoticeBody) : (s.notify b).settings = s.settings := rfl
@[simp] theorem State.notify_positioner (b : NoticeBody) : (s.notify b).positioner = s.positioner := rfl
@[simp] theorem State.notify_station (b : NoticeBody) : (s.notify b).station = s.station := rfl
@[simp] theorem State.notify_weigh (b : NoticeBody) : (s.notify b).weigh = s.weigh := rfl
@[simp] theorem State.notify_conveyor (b : NoticeBody) : (s.notify b).conveyor = s.conveyor := rfl
@[simp] theorem State.notify_bayOne (b : NoticeBody) : (s.notify b).bayOne = s.bayOne := rfl
@[simp] theorem State.notify_bayTwo (b : NoticeBody) : (s.notify b).bayTwo = s.bayTwo := rfl
@[simp] theorem State.notify_lidder (b : NoticeBody) : (s.notify b).lidder = s.lidder := rfl
@[simp] theorem State.notify_lanes (b : NoticeBody) : (s.notify b).lanes = s.lanes := rfl
@[simp] theorem State.notify_line (b : NoticeBody) : (s.notify b).line = s.line := rfl
@[simp] theorem State.notify_supply (b : NoticeBody) : (s.notify b).supply = s.supply := rfl
@[simp] theorem State.notify_moment (b : NoticeBody) : (s.notify b).moment = s.moment := rfl
@[simp] theorem State.notify_freeCount (b : NoticeBody) : (s.notify b).freeCount = s.freeCount := rfl

/-! ## `State.modOrder` -/

@[simp] theorem State.modOrder_pending (n : Nat) (f : Order → Order) :
    (s.modOrder n f).pending = s.pending := rfl
@[simp] theorem State.modOrder_link (n : Nat) (f : Order → Order) : (s.modOrder n f).link = s.link := rfl
@[simp] theorem State.modOrder_notices (n : Nat) (f : Order → Order) :
    (s.modOrder n f).notices = s.notices := rfl
@[simp] theorem State.modOrder_book (n : Nat) (f : Order → Order) :
    (s.modOrder n f).book = { s.book with orders := s.book.orders.map fun o => if o.number = n then f o else o } := rfl
@[simp] theorem State.modOrder_intake (n : Nat) (f : Order → Order) :
    (s.modOrder n f).intake = s.intake := rfl
@[simp] theorem State.modOrder_canisters (n : Nat) (f : Order → Order) :
    (s.modOrder n f).canisters = s.canisters := rfl
@[simp] theorem State.modOrder_classes (n : Nat) (f : Order → Order) :
    (s.modOrder n f).classes = s.classes := rfl
@[simp] theorem State.modOrder_settings (n : Nat) (f : Order → Order) :
    (s.modOrder n f).settings = s.settings := rfl
@[simp] theorem State.modOrder_positioner (n : Nat) (f : Order → Order) :
    (s.modOrder n f).positioner = s.positioner := rfl
@[simp] theorem State.modOrder_station (n : Nat) (f : Order → Order) :
    (s.modOrder n f).station = s.station := rfl
@[simp] theorem State.modOrder_weigh (n : Nat) (f : Order → Order) : (s.modOrder n f).weigh = s.weigh := rfl
@[simp] theorem State.modOrder_conveyor (n : Nat) (f : Order → Order) :
    (s.modOrder n f).conveyor = s.conveyor := rfl
@[simp] theorem State.modOrder_bayOne (n : Nat) (f : Order → Order) :
    (s.modOrder n f).bayOne = s.bayOne := rfl
@[simp] theorem State.modOrder_bayTwo (n : Nat) (f : Order → Order) :
    (s.modOrder n f).bayTwo = s.bayTwo := rfl
@[simp] theorem State.modOrder_lidder (n : Nat) (f : Order → Order) :
    (s.modOrder n f).lidder = s.lidder := rfl
@[simp] theorem State.modOrder_lanes (n : Nat) (f : Order → Order) : (s.modOrder n f).lanes = s.lanes := rfl
@[simp] theorem State.modOrder_line (n : Nat) (f : Order → Order) : (s.modOrder n f).line = s.line := rfl
@[simp] theorem State.modOrder_supply (n : Nat) (f : Order → Order) :
    (s.modOrder n f).supply = s.supply := rfl
@[simp] theorem State.modOrder_moment (n : Nat) (f : Order → Order) :
    (s.modOrder n f).moment = s.moment := rfl
@[simp] theorem State.modOrder_freeCount (n : Nat) (f : Order → Order) :
    (s.modOrder n f).freeCount = s.freeCount := rfl

/-! ## `State.setFlag` -/

@[simp] theorem State.setFlag_pending (n : Nat) (f : OrderFlags → OrderFlags) :
    (s.setFlag n f).pending = s.pending := rfl
@[simp] theorem State.setFlag_link (n : Nat) (f : OrderFlags → OrderFlags) :
    (s.setFlag n f).link = s.link := rfl
@[simp] theorem State.setFlag_notices (n : Nat) (f : OrderFlags → OrderFlags) :
    (s.setFlag n f).notices = s.notices := rfl
@[simp] theorem State.setFlag_intake (n : Nat) (f : OrderFlags → OrderFlags) :
    (s.setFlag n f).intake = s.intake := rfl
@[simp] theorem State.setFlag_canisters (n : Nat) (f : OrderFlags → OrderFlags) :
    (s.setFlag n f).canisters = s.canisters := rfl
@[simp] theorem State.setFlag_classes (n : Nat) (f : OrderFlags → OrderFlags) :
    (s.setFlag n f).classes = s.classes := rfl
@[simp] theorem State.setFlag_settings (n : Nat) (f : OrderFlags → OrderFlags) :
    (s.setFlag n f).settings = s.settings := rfl
@[simp] theorem State.setFlag_positioner (n : Nat) (f : OrderFlags → OrderFlags) :
    (s.setFlag n f).positioner = s.positioner := rfl
@[simp] theorem State.setFlag_station (n : Nat) (f : OrderFlags → OrderFlags) :
    (s.setFlag n f).station = s.station := rfl
@[simp] theorem State.setFlag_weigh (n : Nat) (f : OrderFlags → OrderFlags) :
    (s.setFlag n f).weigh = s.weigh := rfl
@[simp] theorem State.setFlag_conveyor (n : Nat) (f : OrderFlags → OrderFlags) :
    (s.setFlag n f).conveyor = s.conveyor := rfl
@[simp] theorem State.setFlag_bayOne (n : Nat) (f : OrderFlags → OrderFlags) :
    (s.setFlag n f).bayOne = s.bayOne := rfl
@[simp] theorem State.setFlag_bayTwo (n : Nat) (f : OrderFlags → OrderFlags) :
    (s.setFlag n f).bayTwo = s.bayTwo := rfl
@[simp] theorem State.setFlag_lidder (n : Nat) (f : OrderFlags → OrderFlags) :
    (s.setFlag n f).lidder = s.lidder := rfl
@[simp] theorem State.setFlag_lanes (n : Nat) (f : OrderFlags → OrderFlags) :
    (s.setFlag n f).lanes = s.lanes := rfl
@[simp] theorem State.setFlag_line (n : Nat) (f : OrderFlags → OrderFlags) :
    (s.setFlag n f).line = s.line := rfl
@[simp] theorem State.setFlag_supply (n : Nat) (f : OrderFlags → OrderFlags) :
    (s.setFlag n f).supply = s.supply := rfl
@[simp] theorem State.setFlag_moment (n : Nat) (f : OrderFlags → OrderFlags) :
    (s.setFlag n f).moment = s.moment := rfl
@[simp] theorem State.setFlag_freeCount (n : Nat) (f : OrderFlags → OrderFlags) :
    (s.setFlag n f).freeCount = s.freeCount := rfl

/-! ## `State.setRoute` -/

@[simp] theorem State.setRoute_pending (n : Nat) (f : Route → Route) :
    (s.setRoute n f).pending = s.pending := rfl
@[simp] theorem State.setRoute_link (n : Nat) (f : Route → Route) : (s.setRoute n f).link = s.link := rfl
@[simp] theorem State.setRoute_notices (n : Nat) (f : Route → Route) :
    (s.setRoute n f).notices = s.notices := rfl
@[simp] theorem State.setRoute_intake (n : Nat) (f : Route → Route) :
    (s.setRoute n f).intake = s.intake := rfl
@[simp] theorem State.setRoute_canisters (n : Nat) (f : Route → Route) :
    (s.setRoute n f).canisters = s.canisters := rfl
@[simp] theorem State.setRoute_classes (n : Nat) (f : Route → Route) :
    (s.setRoute n f).classes = s.classes := rfl
@[simp] theorem State.setRoute_settings (n : Nat) (f : Route → Route) :
    (s.setRoute n f).settings = s.settings := rfl
@[simp] theorem State.setRoute_positioner (n : Nat) (f : Route → Route) :
    (s.setRoute n f).positioner = s.positioner := rfl
@[simp] theorem State.setRoute_station (n : Nat) (f : Route → Route) :
    (s.setRoute n f).station = s.station := rfl
@[simp] theorem State.setRoute_weigh (n : Nat) (f : Route → Route) : (s.setRoute n f).weigh = s.weigh := rfl
@[simp] theorem State.setRoute_conveyor (n : Nat) (f : Route → Route) :
    (s.setRoute n f).conveyor = s.conveyor := rfl
@[simp] theorem State.setRoute_bayOne (n : Nat) (f : Route → Route) :
    (s.setRoute n f).bayOne = s.bayOne := rfl
@[simp] theorem State.setRoute_bayTwo (n : Nat) (f : Route → Route) :
    (s.setRoute n f).bayTwo = s.bayTwo := rfl
@[simp] theorem State.setRoute_lidder (n : Nat) (f : Route → Route) :
    (s.setRoute n f).lidder = s.lidder := rfl
@[simp] theorem State.setRoute_lanes (n : Nat) (f : Route → Route) : (s.setRoute n f).lanes = s.lanes := rfl
@[simp] theorem State.setRoute_line (n : Nat) (f : Route → Route) : (s.setRoute n f).line = s.line := rfl
@[simp] theorem State.setRoute_supply (n : Nat) (f : Route → Route) :
    (s.setRoute n f).supply = s.supply := rfl
@[simp] theorem State.setRoute_moment (n : Nat) (f : Route → Route) :
    (s.setRoute n f).moment = s.moment := rfl
@[simp] theorem State.setRoute_freeCount (n : Nat) (f : Route → Route) :
    (s.setRoute n f).freeCount = s.freeCount := rfl

/-! ## `State.setPendingEnd` -/

@[simp] theorem State.setPendingEnd_pending (n : Nat) (e : PendingEnd) :
    (s.setPendingEnd n e).pending = s.pending := rfl
@[simp] theorem State.setPendingEnd_link (n : Nat) (e : PendingEnd) :
    (s.setPendingEnd n e).link = s.link := rfl
@[simp] theorem State.setPendingEnd_notices (n : Nat) (e : PendingEnd) :
    (s.setPendingEnd n e).notices = s.notices := rfl
@[simp] theorem State.setPendingEnd_intake (n : Nat) (e : PendingEnd) :
    (s.setPendingEnd n e).intake = s.intake := rfl
@[simp] theorem State.setPendingEnd_canisters (n : Nat) (e : PendingEnd) :
    (s.setPendingEnd n e).canisters = s.canisters := rfl
@[simp] theorem State.setPendingEnd_classes (n : Nat) (e : PendingEnd) :
    (s.setPendingEnd n e).classes = s.classes := rfl
@[simp] theorem State.setPendingEnd_settings (n : Nat) (e : PendingEnd) :
    (s.setPendingEnd n e).settings = s.settings := rfl
@[simp] theorem State.setPendingEnd_positioner (n : Nat) (e : PendingEnd) :
    (s.setPendingEnd n e).positioner = s.positioner := rfl
@[simp] theorem State.setPendingEnd_station (n : Nat) (e : PendingEnd) :
    (s.setPendingEnd n e).station = s.station := rfl
@[simp] theorem State.setPendingEnd_weigh (n : Nat) (e : PendingEnd) :
    (s.setPendingEnd n e).weigh = s.weigh := rfl
@[simp] theorem State.setPendingEnd_conveyor (n : Nat) (e : PendingEnd) :
    (s.setPendingEnd n e).conveyor = s.conveyor := rfl
@[simp] theorem State.setPendingEnd_bayOne (n : Nat) (e : PendingEnd) :
    (s.setPendingEnd n e).bayOne = s.bayOne := rfl
@[simp] theorem State.setPendingEnd_bayTwo (n : Nat) (e : PendingEnd) :
    (s.setPendingEnd n e).bayTwo = s.bayTwo := rfl
@[simp] theorem State.setPendingEnd_lidder (n : Nat) (e : PendingEnd) :
    (s.setPendingEnd n e).lidder = s.lidder := rfl
@[simp] theorem State.setPendingEnd_lanes (n : Nat) (e : PendingEnd) :
    (s.setPendingEnd n e).lanes = s.lanes := rfl
@[simp] theorem State.setPendingEnd_line (n : Nat) (e : PendingEnd) :
    (s.setPendingEnd n e).line = s.line := rfl
@[simp] theorem State.setPendingEnd_supply (n : Nat) (e : PendingEnd) :
    (s.setPendingEnd n e).supply = s.supply := rfl
@[simp] theorem State.setPendingEnd_moment (n : Nat) (e : PendingEnd) :
    (s.setPendingEnd n e).moment = s.moment := rfl
@[simp] theorem State.setPendingEnd_freeCount (n : Nat) (e : PendingEnd) :
    (s.setPendingEnd n e).freeCount = s.freeCount := rfl

/-! ## `State.modCanister` -/

@[simp] theorem State.modCanister_pending (p : Position) (f : Canister → Canister) :
    (s.modCanister p f).pending = s.pending := rfl
@[simp] theorem State.modCanister_link (p : Position) (f : Canister → Canister) :
    (s.modCanister p f).link = s.link := rfl
@[simp] theorem State.modCanister_notices (p : Position) (f : Canister → Canister) :
    (s.modCanister p f).notices = s.notices := rfl
@[simp] theorem State.modCanister_book (p : Position) (f : Canister → Canister) :
    (s.modCanister p f).book = s.book := rfl
@[simp] theorem State.modCanister_intake (p : Position) (f : Canister → Canister) :
    (s.modCanister p f).intake = s.intake := rfl
@[simp] theorem State.modCanister_canisters (p : Position) (f : Canister → Canister) :
    (s.modCanister p f).canisters = s.canisters.set p (f s.canisters[p]) := rfl
@[simp] theorem State.modCanister_classes (p : Position) (f : Canister → Canister) :
    (s.modCanister p f).classes = s.classes := rfl
@[simp] theorem State.modCanister_settings (p : Position) (f : Canister → Canister) :
    (s.modCanister p f).settings = s.settings := rfl
@[simp] theorem State.modCanister_positioner (p : Position) (f : Canister → Canister) :
    (s.modCanister p f).positioner = s.positioner := rfl
@[simp] theorem State.modCanister_station (p : Position) (f : Canister → Canister) :
    (s.modCanister p f).station = s.station := rfl
@[simp] theorem State.modCanister_weigh (p : Position) (f : Canister → Canister) :
    (s.modCanister p f).weigh = s.weigh := rfl
@[simp] theorem State.modCanister_conveyor (p : Position) (f : Canister → Canister) :
    (s.modCanister p f).conveyor = s.conveyor := rfl
@[simp] theorem State.modCanister_bayOne (p : Position) (f : Canister → Canister) :
    (s.modCanister p f).bayOne = s.bayOne := rfl
@[simp] theorem State.modCanister_bayTwo (p : Position) (f : Canister → Canister) :
    (s.modCanister p f).bayTwo = s.bayTwo := rfl
@[simp] theorem State.modCanister_lidder (p : Position) (f : Canister → Canister) :
    (s.modCanister p f).lidder = s.lidder := rfl
@[simp] theorem State.modCanister_lanes (p : Position) (f : Canister → Canister) :
    (s.modCanister p f).lanes = s.lanes := rfl
@[simp] theorem State.modCanister_line (p : Position) (f : Canister → Canister) :
    (s.modCanister p f).line = s.line := rfl
@[simp] theorem State.modCanister_supply (p : Position) (f : Canister → Canister) :
    (s.modCanister p f).supply = s.supply := rfl
@[simp] theorem State.modCanister_moment (p : Position) (f : Canister → Canister) :
    (s.modCanister p f).moment = s.moment := rfl
@[simp] theorem State.modCanister_freeCount (p : Position) (f : Canister → Canister) :
    (s.modCanister p f).freeCount = s.freeCount := rfl

/-! ## `State.modStation` -/

@[simp] theorem State.modStation_pending (f : Station → Station) :
    (s.modStation f).pending = s.pending := rfl
@[simp] theorem State.modStation_link (f : Station → Station) : (s.modStation f).link = s.link := rfl
@[simp] theorem State.modStation_notices (f : Station → Station) :
    (s.modStation f).notices = s.notices := rfl
@[simp] theorem State.modStation_book (f : Station → Station) : (s.modStation f).book = s.book := rfl
@[simp] theorem State.modStation_intake (f : Station → Station) : (s.modStation f).intake = s.intake := rfl
@[simp] theorem State.modStation_canisters (f : Station → Station) :
    (s.modStation f).canisters = s.canisters := rfl
@[simp] theorem State.modStation_classes (f : Station → Station) :
    (s.modStation f).classes = s.classes := rfl
@[simp] theorem State.modStation_settings (f : Station → Station) :
    (s.modStation f).settings = s.settings := rfl
@[simp] theorem State.modStation_positioner (f : Station → Station) :
    (s.modStation f).positioner = s.positioner := rfl
@[simp] theorem State.modStation_station (f : Station → Station) :
    (s.modStation f).station = f s.station := rfl
@[simp] theorem State.modStation_weigh (f : Station → Station) : (s.modStation f).weigh = s.weigh := rfl
@[simp] theorem State.modStation_conveyor (f : Station → Station) :
    (s.modStation f).conveyor = s.conveyor := rfl
@[simp] theorem State.modStation_bayOne (f : Station → Station) : (s.modStation f).bayOne = s.bayOne := rfl
@[simp] theorem State.modStation_bayTwo (f : Station → Station) : (s.modStation f).bayTwo = s.bayTwo := rfl
@[simp] theorem State.modStation_lidder (f : Station → Station) : (s.modStation f).lidder = s.lidder := rfl
@[simp] theorem State.modStation_lanes (f : Station → Station) : (s.modStation f).lanes = s.lanes := rfl
@[simp] theorem State.modStation_line (f : Station → Station) : (s.modStation f).line = s.line := rfl
@[simp] theorem State.modStation_supply (f : Station → Station) : (s.modStation f).supply = s.supply := rfl
@[simp] theorem State.modStation_moment (f : Station → Station) : (s.modStation f).moment = s.moment := rfl
@[simp] theorem State.modStation_freeCount (f : Station → Station) :
    (s.modStation f).freeCount = s.freeCount := rfl

/-! ## `State.modLidder` -/

@[simp] theorem State.modLidder_pending (f : Lidder → Lidder) : (s.modLidder f).pending = s.pending := rfl
@[simp] theorem State.modLidder_link (f : Lidder → Lidder) : (s.modLidder f).link = s.link := rfl
@[simp] theorem State.modLidder_notices (f : Lidder → Lidder) : (s.modLidder f).notices = s.notices := rfl
@[simp] theorem State.modLidder_book (f : Lidder → Lidder) : (s.modLidder f).book = s.book := rfl
@[simp] theorem State.modLidder_intake (f : Lidder → Lidder) : (s.modLidder f).intake = s.intake := rfl
@[simp] theorem State.modLidder_canisters (f : Lidder → Lidder) :
    (s.modLidder f).canisters = s.canisters := rfl
@[simp] theorem State.modLidder_classes (f : Lidder → Lidder) : (s.modLidder f).classes = s.classes := rfl
@[simp] theorem State.modLidder_settings (f : Lidder → Lidder) : (s.modLidder f).settings = s.settings := rfl
@[simp] theorem State.modLidder_positioner (f : Lidder → Lidder) :
    (s.modLidder f).positioner = s.positioner := rfl
@[simp] theorem State.modLidder_station (f : Lidder → Lidder) : (s.modLidder f).station = s.station := rfl
@[simp] theorem State.modLidder_weigh (f : Lidder → Lidder) : (s.modLidder f).weigh = s.weigh := rfl
@[simp] theorem State.modLidder_conveyor (f : Lidder → Lidder) : (s.modLidder f).conveyor = s.conveyor := rfl
@[simp] theorem State.modLidder_bayOne (f : Lidder → Lidder) : (s.modLidder f).bayOne = s.bayOne := rfl
@[simp] theorem State.modLidder_bayTwo (f : Lidder → Lidder) : (s.modLidder f).bayTwo = s.bayTwo := rfl
@[simp] theorem State.modLidder_lidder (f : Lidder → Lidder) : (s.modLidder f).lidder = f s.lidder := rfl
@[simp] theorem State.modLidder_lanes (f : Lidder → Lidder) : (s.modLidder f).lanes = s.lanes := rfl
@[simp] theorem State.modLidder_line (f : Lidder → Lidder) : (s.modLidder f).line = s.line := rfl
@[simp] theorem State.modLidder_supply (f : Lidder → Lidder) : (s.modLidder f).supply = s.supply := rfl
@[simp] theorem State.modLidder_moment (f : Lidder → Lidder) : (s.modLidder f).moment = s.moment := rfl
@[simp] theorem State.modLidder_freeCount (f : Lidder → Lidder) :
    (s.modLidder f).freeCount = s.freeCount := rfl

/-! ## `State.modLane` -/

@[simp] theorem State.modLane_pending (l : Lane) (f : LaneRecord → LaneRecord) :
    (s.modLane l f).pending = s.pending := rfl
@[simp] theorem State.modLane_link (l : Lane) (f : LaneRecord → LaneRecord) :
    (s.modLane l f).link = s.link := rfl
@[simp] theorem State.modLane_notices (l : Lane) (f : LaneRecord → LaneRecord) :
    (s.modLane l f).notices = s.notices := rfl
@[simp] theorem State.modLane_book (l : Lane) (f : LaneRecord → LaneRecord) :
    (s.modLane l f).book = s.book := rfl
@[simp] theorem State.modLane_intake (l : Lane) (f : LaneRecord → LaneRecord) :
    (s.modLane l f).intake = s.intake := rfl
@[simp] theorem State.modLane_canisters (l : Lane) (f : LaneRecord → LaneRecord) :
    (s.modLane l f).canisters = s.canisters := rfl
@[simp] theorem State.modLane_classes (l : Lane) (f : LaneRecord → LaneRecord) :
    (s.modLane l f).classes = s.classes := rfl
@[simp] theorem State.modLane_settings (l : Lane) (f : LaneRecord → LaneRecord) :
    (s.modLane l f).settings = s.settings := rfl
@[simp] theorem State.modLane_positioner (l : Lane) (f : LaneRecord → LaneRecord) :
    (s.modLane l f).positioner = s.positioner := rfl
@[simp] theorem State.modLane_station (l : Lane) (f : LaneRecord → LaneRecord) :
    (s.modLane l f).station = s.station := rfl
@[simp] theorem State.modLane_weigh (l : Lane) (f : LaneRecord → LaneRecord) :
    (s.modLane l f).weigh = s.weigh := rfl
@[simp] theorem State.modLane_conveyor (l : Lane) (f : LaneRecord → LaneRecord) :
    (s.modLane l f).conveyor = s.conveyor := rfl
@[simp] theorem State.modLane_bayOne (l : Lane) (f : LaneRecord → LaneRecord) :
    (s.modLane l f).bayOne = s.bayOne := rfl
@[simp] theorem State.modLane_bayTwo (l : Lane) (f : LaneRecord → LaneRecord) :
    (s.modLane l f).bayTwo = s.bayTwo := rfl
@[simp] theorem State.modLane_lidder (l : Lane) (f : LaneRecord → LaneRecord) :
    (s.modLane l f).lidder = s.lidder := rfl
@[simp] theorem State.modLane_lanes (l : Lane) (f : LaneRecord → LaneRecord) :
    (s.modLane l f).lanes = s.lanes.set l (f s.lanes[l]) := rfl
@[simp] theorem State.modLane_line (l : Lane) (f : LaneRecord → LaneRecord) :
    (s.modLane l f).line = s.line := rfl
@[simp] theorem State.modLane_supply (l : Lane) (f : LaneRecord → LaneRecord) :
    (s.modLane l f).supply = s.supply := rfl
@[simp] theorem State.modLane_moment (l : Lane) (f : LaneRecord → LaneRecord) :
    (s.modLane l f).moment = s.moment := rfl
@[simp] theorem State.modLane_freeCount (l : Lane) (f : LaneRecord → LaneRecord) :
    (s.modLane l f).freeCount = s.freeCount := rfl

/-! ## `State.modIntake` -/

@[simp] theorem State.modIntake_pending (f : Intake → Intake) : (s.modIntake f).pending = s.pending := rfl
@[simp] theorem State.modIntake_link (f : Intake → Intake) : (s.modIntake f).link = s.link := rfl
@[simp] theorem State.modIntake_notices (f : Intake → Intake) : (s.modIntake f).notices = s.notices := rfl
@[simp] theorem State.modIntake_book (f : Intake → Intake) : (s.modIntake f).book = s.book := rfl
@[simp] theorem State.modIntake_intake (f : Intake → Intake) : (s.modIntake f).intake = f s.intake := rfl
@[simp] theorem State.modIntake_canisters (f : Intake → Intake) :
    (s.modIntake f).canisters = s.canisters := rfl
@[simp] theorem State.modIntake_classes (f : Intake → Intake) : (s.modIntake f).classes = s.classes := rfl
@[simp] theorem State.modIntake_settings (f : Intake → Intake) : (s.modIntake f).settings = s.settings := rfl
@[simp] theorem State.modIntake_positioner (f : Intake → Intake) :
    (s.modIntake f).positioner = s.positioner := rfl
@[simp] theorem State.modIntake_station (f : Intake → Intake) : (s.modIntake f).station = s.station := rfl
@[simp] theorem State.modIntake_weigh (f : Intake → Intake) : (s.modIntake f).weigh = s.weigh := rfl
@[simp] theorem State.modIntake_conveyor (f : Intake → Intake) : (s.modIntake f).conveyor = s.conveyor := rfl
@[simp] theorem State.modIntake_bayOne (f : Intake → Intake) : (s.modIntake f).bayOne = s.bayOne := rfl
@[simp] theorem State.modIntake_bayTwo (f : Intake → Intake) : (s.modIntake f).bayTwo = s.bayTwo := rfl
@[simp] theorem State.modIntake_lidder (f : Intake → Intake) : (s.modIntake f).lidder = s.lidder := rfl
@[simp] theorem State.modIntake_lanes (f : Intake → Intake) : (s.modIntake f).lanes = s.lanes := rfl
@[simp] theorem State.modIntake_line (f : Intake → Intake) : (s.modIntake f).line = s.line := rfl
@[simp] theorem State.modIntake_supply (f : Intake → Intake) : (s.modIntake f).supply = s.supply := rfl
@[simp] theorem State.modIntake_moment (f : Intake → Intake) : (s.modIntake f).moment = s.moment := rfl
@[simp] theorem State.modIntake_freeCount (f : Intake → Intake) :
    (s.modIntake f).freeCount = s.freeCount := rfl

/-! ## `State.setRecord` -/

@[simp] theorem State.setRecord_pending (d : Dest) (t : Option Transfer) :
    (s.setRecord d t).pending = s.pending := rfl
@[simp] theorem State.setRecord_link (d : Dest) (t : Option Transfer) :
    (s.setRecord d t).link = s.link := rfl
@[simp] theorem State.setRecord_notices (d : Dest) (t : Option Transfer) :
    (s.setRecord d t).notices = s.notices := rfl
@[simp] theorem State.setRecord_book (d : Dest) (t : Option Transfer) :
    (s.setRecord d t).book = s.book := rfl
@[simp] theorem State.setRecord_intake (d : Dest) (t : Option Transfer) :
    (s.setRecord d t).intake = s.intake := rfl
@[simp] theorem State.setRecord_canisters (d : Dest) (t : Option Transfer) :
    (s.setRecord d t).canisters = s.canisters := rfl
@[simp] theorem State.setRecord_classes (d : Dest) (t : Option Transfer) :
    (s.setRecord d t).classes = s.classes := rfl
@[simp] theorem State.setRecord_settings (d : Dest) (t : Option Transfer) :
    (s.setRecord d t).settings = s.settings := rfl
@[simp] theorem State.setRecord_positioner (d : Dest) (t : Option Transfer) :
    (s.setRecord d t).positioner = s.positioner := rfl
@[simp] theorem State.setRecord_station (d : Dest) (t : Option Transfer) :
    (s.setRecord d t).station = s.station := rfl
@[simp] theorem State.setRecord_weigh (d : Dest) (t : Option Transfer) :
    (s.setRecord d t).weigh = s.weigh := rfl
@[simp] theorem State.setRecord_conveyor (d : Dest) (t : Option Transfer) :
    (s.setRecord d t).conveyor = s.conveyor.setRecord d t := rfl
@[simp] theorem State.setRecord_bayOne (d : Dest) (t : Option Transfer) :
    (s.setRecord d t).bayOne = s.bayOne := rfl
@[simp] theorem State.setRecord_bayTwo (d : Dest) (t : Option Transfer) :
    (s.setRecord d t).bayTwo = s.bayTwo := rfl
@[simp] theorem State.setRecord_lidder (d : Dest) (t : Option Transfer) :
    (s.setRecord d t).lidder = s.lidder := rfl
@[simp] theorem State.setRecord_lanes (d : Dest) (t : Option Transfer) :
    (s.setRecord d t).lanes = s.lanes := rfl
@[simp] theorem State.setRecord_line (d : Dest) (t : Option Transfer) :
    (s.setRecord d t).line = s.line := rfl
@[simp] theorem State.setRecord_supply (d : Dest) (t : Option Transfer) :
    (s.setRecord d t).supply = s.supply := rfl
@[simp] theorem State.setRecord_moment (d : Dest) (t : Option Transfer) :
    (s.setRecord d t).moment = s.moment := rfl
@[simp] theorem State.setRecord_freeCount (d : Dest) (t : Option Transfer) :
    (s.setRecord d t).freeCount = s.freeCount := rfl

/-! ## `State.setSlot` -/

@[simp] theorem State.setSlot_pending (n : Option Nat) : (s.setSlot n).pending = s.pending := rfl
@[simp] theorem State.setSlot_link (n : Option Nat) : (s.setSlot n).link = s.link := rfl
@[simp] theorem State.setSlot_notices (n : Option Nat) : (s.setSlot n).notices = s.notices := rfl
@[simp] theorem State.setSlot_book (n : Option Nat) : (s.setSlot n).book = { s.book with slot := n } := rfl
@[simp] theorem State.setSlot_intake (n : Option Nat) : (s.setSlot n).intake = s.intake := rfl
@[simp] theorem State.setSlot_canisters (n : Option Nat) : (s.setSlot n).canisters = s.canisters := rfl
@[simp] theorem State.setSlot_classes (n : Option Nat) : (s.setSlot n).classes = s.classes := rfl
@[simp] theorem State.setSlot_settings (n : Option Nat) : (s.setSlot n).settings = s.settings := rfl
@[simp] theorem State.setSlot_positioner (n : Option Nat) : (s.setSlot n).positioner = s.positioner := rfl
@[simp] theorem State.setSlot_station (n : Option Nat) : (s.setSlot n).station = s.station := rfl
@[simp] theorem State.setSlot_weigh (n : Option Nat) : (s.setSlot n).weigh = s.weigh := rfl
@[simp] theorem State.setSlot_conveyor (n : Option Nat) : (s.setSlot n).conveyor = s.conveyor := rfl
@[simp] theorem State.setSlot_bayOne (n : Option Nat) : (s.setSlot n).bayOne = s.bayOne := rfl
@[simp] theorem State.setSlot_bayTwo (n : Option Nat) : (s.setSlot n).bayTwo = s.bayTwo := rfl
@[simp] theorem State.setSlot_lidder (n : Option Nat) : (s.setSlot n).lidder = s.lidder := rfl
@[simp] theorem State.setSlot_lanes (n : Option Nat) : (s.setSlot n).lanes = s.lanes := rfl
@[simp] theorem State.setSlot_line (n : Option Nat) : (s.setSlot n).line = s.line := rfl
@[simp] theorem State.setSlot_supply (n : Option Nat) : (s.setSlot n).supply = s.supply := rfl
@[simp] theorem State.setSlot_moment (n : Option Nat) : (s.setSlot n).moment = s.moment := rfl
@[simp] theorem State.setSlot_freeCount (n : Option Nat) : (s.setSlot n).freeCount = s.freeCount := rfl

/-! ## `State.assignTin` -/

@[simp] theorem State.assignTin_pending (n : Nat) : (s.assignTin n).pending = s.pending := rfl
@[simp] theorem State.assignTin_link (n : Nat) : (s.assignTin n).link = s.link := rfl
@[simp] theorem State.assignTin_notices (n : Nat) : (s.assignTin n).notices = s.notices := rfl
@[simp] theorem State.assignTin_intake (n : Nat) : (s.assignTin n).intake = s.intake := rfl
@[simp] theorem State.assignTin_canisters (n : Nat) : (s.assignTin n).canisters = s.canisters := rfl
@[simp] theorem State.assignTin_classes (n : Nat) : (s.assignTin n).classes = s.classes := rfl
@[simp] theorem State.assignTin_settings (n : Nat) : (s.assignTin n).settings = s.settings := rfl
@[simp] theorem State.assignTin_positioner (n : Nat) : (s.assignTin n).positioner = s.positioner := rfl
@[simp] theorem State.assignTin_station (n : Nat) : (s.assignTin n).station = s.station := rfl
@[simp] theorem State.assignTin_weigh (n : Nat) : (s.assignTin n).weigh = s.weigh := rfl
@[simp] theorem State.assignTin_conveyor (n : Nat) : (s.assignTin n).conveyor = s.conveyor := rfl
@[simp] theorem State.assignTin_bayOne (n : Nat) : (s.assignTin n).bayOne = s.bayOne := rfl
@[simp] theorem State.assignTin_bayTwo (n : Nat) : (s.assignTin n).bayTwo = s.bayTwo := rfl
@[simp] theorem State.assignTin_lidder (n : Nat) : (s.assignTin n).lidder = s.lidder := rfl
@[simp] theorem State.assignTin_lanes (n : Nat) : (s.assignTin n).lanes = s.lanes := rfl
@[simp] theorem State.assignTin_line (n : Nat) : (s.assignTin n).line = s.line := rfl
@[simp] theorem State.assignTin_supply (n : Nat) : (s.assignTin n).supply = s.supply := rfl
@[simp] theorem State.assignTin_moment (n : Nat) : (s.assignTin n).moment = s.moment := rfl
@[simp] theorem State.assignTin_freeCount (n : Nat) : (s.assignTin n).freeCount = s.freeCount := rfl

/-! ## `State.setIntakeRequest` -/

@[simp] theorem State.setIntakeRequest_pending (r : Bool) : (s.setIntakeRequest r).pending = s.pending := rfl
@[simp] theorem State.setIntakeRequest_link (r : Bool) : (s.setIntakeRequest r).link = s.link := rfl
@[simp] theorem State.setIntakeRequest_notices (r : Bool) : (s.setIntakeRequest r).notices = s.notices := rfl
@[simp] theorem State.setIntakeRequest_book (r : Bool) : (s.setIntakeRequest r).book = s.book := rfl
@[simp] theorem State.setIntakeRequest_intake (r : Bool) : (s.setIntakeRequest r).intake = s.intake := rfl
@[simp] theorem State.setIntakeRequest_canisters (r : Bool) :
    (s.setIntakeRequest r).canisters = s.canisters := rfl
@[simp] theorem State.setIntakeRequest_classes (r : Bool) : (s.setIntakeRequest r).classes = s.classes := rfl
@[simp] theorem State.setIntakeRequest_settings (r : Bool) :
    (s.setIntakeRequest r).settings = s.settings := rfl
@[simp] theorem State.setIntakeRequest_positioner (r : Bool) :
    (s.setIntakeRequest r).positioner = s.positioner := rfl
@[simp] theorem State.setIntakeRequest_station (r : Bool) : (s.setIntakeRequest r).station = s.station := rfl
@[simp] theorem State.setIntakeRequest_weigh (r : Bool) : (s.setIntakeRequest r).weigh = s.weigh := rfl
@[simp] theorem State.setIntakeRequest_conveyor (r : Bool) :
    (s.setIntakeRequest r).conveyor = { s.conveyor with intakeRequest := r } := rfl
@[simp] theorem State.setIntakeRequest_bayOne (r : Bool) : (s.setIntakeRequest r).bayOne = s.bayOne := rfl
@[simp] theorem State.setIntakeRequest_bayTwo (r : Bool) : (s.setIntakeRequest r).bayTwo = s.bayTwo := rfl
@[simp] theorem State.setIntakeRequest_lidder (r : Bool) : (s.setIntakeRequest r).lidder = s.lidder := rfl
@[simp] theorem State.setIntakeRequest_lanes (r : Bool) : (s.setIntakeRequest r).lanes = s.lanes := rfl
@[simp] theorem State.setIntakeRequest_line (r : Bool) : (s.setIntakeRequest r).line = s.line := rfl
@[simp] theorem State.setIntakeRequest_supply (r : Bool) : (s.setIntakeRequest r).supply = s.supply := rfl
@[simp] theorem State.setIntakeRequest_moment (r : Bool) : (s.setIntakeRequest r).moment = s.moment := rfl
@[simp] theorem State.setIntakeRequest_freeCount (r : Bool) :
    (s.setIntakeRequest r).freeCount = s.freeCount := rfl

/-! ## `State.abandonSettle` -/

@[simp] theorem State.abandonSettle_pending : (s.abandonSettle).pending = s.pending := rfl
@[simp] theorem State.abandonSettle_link : (s.abandonSettle).link = s.link := rfl
@[simp] theorem State.abandonSettle_notices : (s.abandonSettle).notices = s.notices := rfl
@[simp] theorem State.abandonSettle_book : (s.abandonSettle).book = s.book := rfl
@[simp] theorem State.abandonSettle_intake : (s.abandonSettle).intake = s.intake := rfl
@[simp] theorem State.abandonSettle_canisters : (s.abandonSettle).canisters = s.canisters := rfl
@[simp] theorem State.abandonSettle_classes : (s.abandonSettle).classes = s.classes := rfl
@[simp] theorem State.abandonSettle_settings : (s.abandonSettle).settings = s.settings := rfl
@[simp] theorem State.abandonSettle_positioner : (s.abandonSettle).positioner = s.positioner := rfl
@[simp] theorem State.abandonSettle_station : (s.abandonSettle).station = s.station := rfl
@[simp] theorem State.abandonSettle_weigh :
    (s.abandonSettle).weigh = { s.weigh with settling := false, span := [] } := rfl
@[simp] theorem State.abandonSettle_conveyor : (s.abandonSettle).conveyor = s.conveyor := rfl
@[simp] theorem State.abandonSettle_bayOne : (s.abandonSettle).bayOne = s.bayOne := rfl
@[simp] theorem State.abandonSettle_bayTwo : (s.abandonSettle).bayTwo = s.bayTwo := rfl
@[simp] theorem State.abandonSettle_lidder : (s.abandonSettle).lidder = s.lidder := rfl
@[simp] theorem State.abandonSettle_lanes : (s.abandonSettle).lanes = s.lanes := rfl
@[simp] theorem State.abandonSettle_line : (s.abandonSettle).line = s.line := rfl
@[simp] theorem State.abandonSettle_supply : (s.abandonSettle).supply = s.supply := rfl
@[simp] theorem State.abandonSettle_moment : (s.abandonSettle).moment = s.moment := rfl
@[simp] theorem State.abandonSettle_freeCount : (s.abandonSettle).freeCount = s.freeCount := rfl

/-! ## `State.drawn` -/

@[simp] theorem State.drawn_pending : (s.drawn).pending = s.pending := rfl
@[simp] theorem State.drawn_link : (s.drawn).link = s.link := rfl
@[simp] theorem State.drawn_notices : (s.drawn).notices = s.notices := rfl
@[simp] theorem State.drawn_book : (s.drawn).book = s.book := rfl
@[simp] theorem State.drawn_intake : (s.drawn).intake = s.intake := rfl
@[simp] theorem State.drawn_canisters : (s.drawn).canisters = s.canisters := rfl
@[simp] theorem State.drawn_classes : (s.drawn).classes = s.classes := rfl
@[simp] theorem State.drawn_settings : (s.drawn).settings = s.settings := rfl
@[simp] theorem State.drawn_positioner : (s.drawn).positioner = s.positioner := rfl
@[simp] theorem State.drawn_station : (s.drawn).station = s.station := rfl
@[simp] theorem State.drawn_weigh : (s.drawn).weigh = s.weigh := rfl
@[simp] theorem State.drawn_conveyor : (s.drawn).conveyor = s.conveyor := rfl
@[simp] theorem State.drawn_bayOne : (s.drawn).bayOne = s.bayOne := rfl
@[simp] theorem State.drawn_bayTwo : (s.drawn).bayTwo = s.bayTwo := rfl
@[simp] theorem State.drawn_lidder : (s.drawn).lidder = s.lidder := rfl
@[simp] theorem State.drawn_lanes : (s.drawn).lanes = s.lanes := rfl
@[simp] theorem State.drawn_line : (s.drawn).line = s.line := rfl
@[simp] theorem State.drawn_supply : (s.drawn).supply = s.supply := rfl
@[simp] theorem State.drawn_moment : (s.drawn).moment = s.moment := rfl
@[simp] theorem State.drawn_freeCount : (s.drawn).freeCount = s.freeCount + 1 := rfl

/-! ## `State.tick` -/

@[simp] theorem State.tick_pending : (s.tick).pending = s.pending := rfl
@[simp] theorem State.tick_link : (s.tick).link = s.link := rfl
@[simp] theorem State.tick_notices : (s.tick).notices = s.notices := rfl
@[simp] theorem State.tick_book : (s.tick).book = s.book := rfl
@[simp] theorem State.tick_intake : (s.tick).intake = s.intake := rfl
@[simp] theorem State.tick_canisters : (s.tick).canisters = s.canisters := rfl
@[simp] theorem State.tick_classes : (s.tick).classes = s.classes := rfl
@[simp] theorem State.tick_settings : (s.tick).settings = s.settings := rfl
@[simp] theorem State.tick_positioner : (s.tick).positioner = s.positioner := rfl
@[simp] theorem State.tick_station : (s.tick).station = s.station := rfl
@[simp] theorem State.tick_weigh : (s.tick).weigh = s.weigh := rfl
@[simp] theorem State.tick_conveyor : (s.tick).conveyor = s.conveyor := rfl
@[simp] theorem State.tick_bayOne : (s.tick).bayOne = s.bayOne := rfl
@[simp] theorem State.tick_bayTwo : (s.tick).bayTwo = s.bayTwo := rfl
@[simp] theorem State.tick_lidder : (s.tick).lidder = s.lidder := rfl
@[simp] theorem State.tick_lanes : (s.tick).lanes = s.lanes := rfl
@[simp] theorem State.tick_line : (s.tick).line = s.line := rfl
@[simp] theorem State.tick_supply : (s.tick).supply = s.supply := rfl
@[simp] theorem State.tick_moment : (s.tick).moment = s.moment + 1 := rfl
@[simp] theorem State.tick_freeCount : (s.tick).freeCount = s.freeCount := rfl

/-! ## `State.setPendingMode` -/

@[simp] theorem State.setPendingMode_pending (p : Option PendingMode) :
    (s.setPendingMode p).pending = s.pending := rfl
@[simp] theorem State.setPendingMode_link (p : Option PendingMode) :
    (s.setPendingMode p).link = s.link := rfl
@[simp] theorem State.setPendingMode_notices (p : Option PendingMode) :
    (s.setPendingMode p).notices = s.notices := rfl
@[simp] theorem State.setPendingMode_book (p : Option PendingMode) :
    (s.setPendingMode p).book = s.book := rfl
@[simp] theorem State.setPendingMode_intake (p : Option PendingMode) :
    (s.setPendingMode p).intake = s.intake := rfl
@[simp] theorem State.setPendingMode_canisters (p : Option PendingMode) :
    (s.setPendingMode p).canisters = s.canisters := rfl
@[simp] theorem State.setPendingMode_classes (p : Option PendingMode) :
    (s.setPendingMode p).classes = s.classes := rfl
@[simp] theorem State.setPendingMode_settings (p : Option PendingMode) :
    (s.setPendingMode p).settings = s.settings := rfl
@[simp] theorem State.setPendingMode_positioner (p : Option PendingMode) :
    (s.setPendingMode p).positioner = s.positioner := rfl
@[simp] theorem State.setPendingMode_station (p : Option PendingMode) :
    (s.setPendingMode p).station = s.station := rfl
@[simp] theorem State.setPendingMode_weigh (p : Option PendingMode) :
    (s.setPendingMode p).weigh = s.weigh := rfl
@[simp] theorem State.setPendingMode_conveyor (p : Option PendingMode) :
    (s.setPendingMode p).conveyor = s.conveyor := rfl
@[simp] theorem State.setPendingMode_bayOne (p : Option PendingMode) :
    (s.setPendingMode p).bayOne = s.bayOne := rfl
@[simp] theorem State.setPendingMode_bayTwo (p : Option PendingMode) :
    (s.setPendingMode p).bayTwo = s.bayTwo := rfl
@[simp] theorem State.setPendingMode_lidder (p : Option PendingMode) :
    (s.setPendingMode p).lidder = s.lidder := rfl
@[simp] theorem State.setPendingMode_lanes (p : Option PendingMode) :
    (s.setPendingMode p).lanes = s.lanes := rfl
@[simp] theorem State.setPendingMode_line (p : Option PendingMode) :
    (s.setPendingMode p).line = { s.line with pendingMode := p } := rfl
@[simp] theorem State.setPendingMode_supply (p : Option PendingMode) :
    (s.setPendingMode p).supply = s.supply := rfl
@[simp] theorem State.setPendingMode_moment (p : Option PendingMode) :
    (s.setPendingMode p).moment = s.moment := rfl
@[simp] theorem State.setPendingMode_freeCount (p : Option PendingMode) :
    (s.setPendingMode p).freeCount = s.freeCount := rfl

/-! ## `State.modBay` -/

@[simp] theorem State.modBay_pending (b : BayId) (f : Bay → Bay) : (s.modBay b f).pending = s.pending := by
  cases b <;> rfl
@[simp] theorem State.modBay_link (b : BayId) (f : Bay → Bay) : (s.modBay b f).link = s.link := by
  cases b <;> rfl
@[simp] theorem State.modBay_notices (b : BayId) (f : Bay → Bay) : (s.modBay b f).notices = s.notices := by
  cases b <;> rfl
@[simp] theorem State.modBay_book (b : BayId) (f : Bay → Bay) : (s.modBay b f).book = s.book := by
  cases b <;> rfl
@[simp] theorem State.modBay_intake (b : BayId) (f : Bay → Bay) : (s.modBay b f).intake = s.intake := by
  cases b <;> rfl
@[simp] theorem State.modBay_canisters (b : BayId) (f : Bay → Bay) : (s.modBay b f).canisters = s.canisters := by
  cases b <;> rfl
@[simp] theorem State.modBay_classes (b : BayId) (f : Bay → Bay) : (s.modBay b f).classes = s.classes := by
  cases b <;> rfl
@[simp] theorem State.modBay_settings (b : BayId) (f : Bay → Bay) : (s.modBay b f).settings = s.settings := by
  cases b <;> rfl
@[simp] theorem State.modBay_positioner (b : BayId) (f : Bay → Bay) : (s.modBay b f).positioner = s.positioner := by
  cases b <;> rfl
@[simp] theorem State.modBay_station (b : BayId) (f : Bay → Bay) : (s.modBay b f).station = s.station := by
  cases b <;> rfl
@[simp] theorem State.modBay_weigh (b : BayId) (f : Bay → Bay) : (s.modBay b f).weigh = s.weigh := by
  cases b <;> rfl
@[simp] theorem State.modBay_conveyor (b : BayId) (f : Bay → Bay) : (s.modBay b f).conveyor = s.conveyor := by
  cases b <;> rfl
@[simp] theorem State.modBay_lidder (b : BayId) (f : Bay → Bay) : (s.modBay b f).lidder = s.lidder := by
  cases b <;> rfl
@[simp] theorem State.modBay_lanes (b : BayId) (f : Bay → Bay) : (s.modBay b f).lanes = s.lanes := by
  cases b <;> rfl
@[simp] theorem State.modBay_line (b : BayId) (f : Bay → Bay) : (s.modBay b f).line = s.line := by
  cases b <;> rfl
@[simp] theorem State.modBay_supply (b : BayId) (f : Bay → Bay) : (s.modBay b f).supply = s.supply := by
  cases b <;> rfl
@[simp] theorem State.modBay_moment (b : BayId) (f : Bay → Bay) : (s.modBay b f).moment = s.moment := by
  cases b <;> rfl
@[simp] theorem State.modBay_freeCount (b : BayId) (f : Bay → Bay) : (s.modBay b f).freeCount = s.freeCount := by
  cases b <;> rfl

@[simp] theorem State.modBay_bay_same (b : BayId) (f : Bay → Bay) : (s.modBay b f).bay b = f (s.bay b) := by
  cases b <;> rfl

theorem State.modBay_bay_other (b c : BayId) (f : Bay → Bay) (h : c ≠ b) :
    (s.modBay b f).bay c = s.bay c := by
  cases b <;> cases c <;> first | rfl | exact absurd rfl h

/-! ## `State.setMode` -/

theorem State.setMode_eq (m : LineMode) (p : Option PendingMode) :
    s.setMode m p =
      { s with
        line := { s.line with mode := m, pendingMode := p }
        notices := if s.line.mode = m then s.notices else queueNotice s.notices (.lineMode m p) } := by
  unfold State.setMode State.notify
  split <;> rfl

end Sys2Proof.Machine
end

