-- ==== Sys2Proof/Laws/Commands.lean ====
section
/-! SUPPORT. What the shapes every command is built from can do: a command, a request, its reply, and what ends
every command. -/

namespace Sys2Proof.Machine

variable {s w : State} {kind tag : Byte} {payload : List Byte}

/-! ## Commands and requests -/

/-- A command of a working controller is its effect and the end of every command. -/
theorem State.command_of_working (h : s.supply.warned = false) (f : State → State) :
    s.command f = .next (f s).finish := by
  simp [State.command, h]

/-- A command of a warned controller changes nothing. -/
theorem State.command_of_warned (h : s.supply.warned = true) (f : State → State) : s.command f = .next s := by
  simp [State.command, h]

/-- A command answers a next state: the state itself, or its effect and the end of every command. -/
theorem State.command_cases (f : State → State) :
    (s.supply.warned = true ∧ s.command f = .next s) ∨
    (s.supply.warned = false ∧ s.command f = .next (f s).finish) := by
  cases h : s.supply.warned
  · exact .inr ⟨rfl, State.command_of_working h f⟩
  · exact .inl ⟨rfl, State.command_of_warned h f⟩

/-- The reply of an answer is composed as `State.answered` says. -/
theorem Answer.settle_eq_answered (a : Answer) : a.settle kind tag = a.state.answered kind tag a.status a.body :=
  rfl

/-- A request that is to be taken leaves its owner's state with the reply composed. -/
theorem State.request_of_offer (h : s.offer kind tag payload = some w) (owner : State → Answer) :
    s.request kind tag payload owner =
      (owner w).state.answered kind tag (owner w).status (owner w).body := by
  simp [State.request, h, Answer.settle_eq_answered]

/-- A request that is not the one to be taken changes nothing. -/
theorem State.request_of_no_offer (h : s.offer kind tag payload = none) (owner : State → Answer) :
    s.request kind tag payload owner = s := by
  simp [State.request, h]

/-- A request row taken by a working controller. -/
theorem State.requestCommand_of_takes (h : s.Takes w kind tag payload) (owner : State → Answer) :
    s.requestCommand kind tag payload owner =
      .next ((owner w).state.answered kind tag (owner w).status (owner w).body).finish := by
  rw [State.requestCommand, State.command_of_working h.1, State.request_of_offer h.2]

/-- A RESOLVE row taken by a working controller. -/
theorem State.resolveCommand_of_takes {a : Action} (h : s.Takes w 0x15 tag payload) (ho : a.owns payload = true)
    (owner : List Byte → State → Answer) :
    s.resolveCommand a tag payload owner =
      .next ((owner payload w).state.answered 0x15 tag (owner payload w).status
        (owner payload w).body).finish := by
  rw [State.resolveCommand, State.command_of_working h.1]
  simp only [ho, if_true]
  rw [State.request_of_offer h.2]

/-- The state in which a request waits differs from the state it found only in the input queue. -/
theorem State.offer_eq (h : s.offer kind tag payload = some w) :
    w = { s with link := { s.link with queue := w.link.queue } } := by
  unfold State.offer at h
  split at h
  · split at h
    · cases h; rfl
    · cases h
  · split at h
    · cases h; rfl
    · cases h

/-! ## The end of every command -/

/-- A waiting stroke put off touches the station alone. -/
theorem State.holdWaiting_cases (s : State) :
    s.holdWaiting = s ∨
    (s.station.state = .waitCanister ∧ s.startsAllowed = false ∧
      s.holdWaiting = s.modStation fun st =>
        { st with state := .pausedHold, resume := some .strokeCheck, finding := none }) := by
  unfold State.holdWaiting
  split
  · rename_i h
    refine .inr ⟨h.1, by simpa using h.2, rfl⟩
  · exact .inl rfl

/-- The choice of a frame: none, a reply, or the oldest notice, which leaves the queue. -/
theorem State.chooseFrame_cases (s : State) :
    s.chooseFrame = s ∨
    (∃ r, s.chooseFrame = { s with link := { s.link with tx := .sendingReply r } }) ∨
    (∃ n rest, s.notices = n :: rest ∧
      s.chooseFrame = { s with
        notices := rest, link := { s.link with tx := .sendingNotice n.body.kind noticeTag n } }) := by
  unfold State.chooseFrame
  split
  · split
    · exact .inr (.inl ⟨_, rfl⟩)
    · split
      · rename_i n rest h
        exact .inr (.inr ⟨n, rest, h, rfl⟩)
      · exact .inl rfl
  · exact .inl rfl

/-- HALTED transfers resumed touch the conveyor alone. -/
theorem State.resumeHalted_cases (s : State) :
    s.resumeHalted = s ∨ ∃ c, s.resumeHalted = { s with conveyor := c } := by
  unfold State.resumeHalted
  split
  · exact .inr ⟨_, rfl⟩
  · exact .inl rfl

/-- What ends every command leaves all but the station, the conveyor, the link and the notice queue. -/
theorem State.finish_eq (s : State) :
    s.finish = { s with
      station := s.finish.station, conveyor := s.finish.conveyor, link := s.finish.link,
      notices := s.finish.notices } := by
  unfold State.finish State.updateRts
  rcases s.holdWaiting_cases with h | ⟨-, -, h⟩ <;> rw [h] <;>
  rcases State.chooseFrame_cases _ with h | ⟨r, h⟩ | ⟨n, rest, -, h⟩ <;> rw [h] <;>
  rcases State.resumeHalted_cases _ with h | ⟨c, h⟩ <;> rw [h] <;> rfl

@[simp] theorem State.finish_pending (s : State) : s.finish.pending = s.pending := by rw [s.finish_eq]
@[simp] theorem State.finish_book (s : State) : s.finish.book = s.book := by rw [s.finish_eq]
@[simp] theorem State.finish_intake (s : State) : s.finish.intake = s.intake := by rw [s.finish_eq]
@[simp] theorem State.finish_canisters (s : State) : s.finish.canisters = s.canisters := by rw [s.finish_eq]
@[simp] theorem State.finish_classes (s : State) : s.finish.classes = s.classes := by rw [s.finish_eq]
@[simp] theorem State.finish_settings (s : State) : s.finish.settings = s.settings := by rw [s.finish_eq]
@[simp] theorem State.finish_positioner (s : State) : s.finish.positioner = s.positioner := by rw [s.finish_eq]
@[simp] theorem State.finish_weigh (s : State) : s.finish.weigh = s.weigh := by rw [s.finish_eq]
@[simp] theorem State.finish_bayOne (s : State) : s.finish.bayOne = s.bayOne := by rw [s.finish_eq]
@[simp] theorem State.finish_bayTwo (s : State) : s.finish.bayTwo = s.bayTwo := by rw [s.finish_eq]
@[simp] theorem State.finish_lidder (s : State) : s.finish.lidder = s.lidder := by rw [s.finish_eq]
@[simp] theorem State.finish_lanes (s : State) : s.finish.lanes = s.lanes := by rw [s.finish_eq]
@[simp] theorem State.finish_line (s : State) : s.finish.line = s.line := by rw [s.finish_eq]
@[simp] theorem State.finish_supply (s : State) : s.finish.supply = s.supply := by rw [s.finish_eq]
@[simp] theorem State.finish_moment (s : State) : s.finish.moment = s.moment := by rw [s.finish_eq]
@[simp] theorem State.finish_freeCount (s : State) : s.finish.freeCount = s.freeCount := by rw [s.finish_eq]

/-- The notice queue after a command is the one its effect left, or that queue less its head, which is in
transmission. -/
theorem State.finish_notices (s : State) :
    s.finish.notices = s.notices ∨
    ∃ n, s.notices = n :: s.finish.notices ∧ s.finish.link.tx = .sendingNotice n.body.kind noticeTag n := by
  unfold State.finish State.updateRts
  rcases s.holdWaiting_cases with h | ⟨-, -, h⟩ <;> rw [h] <;>
  rcases State.chooseFrame_cases _ with h | ⟨r, h⟩ | ⟨n, rest, hn, h⟩ <;> rw [h] <;>
  rcases State.resumeHalted_cases _ with h | ⟨c, h⟩ <;> rw [h] <;>
  first
    | exact .inl rfl
    | exact .inr ⟨n, by simpa using hn, rfl⟩

/-- The input queue is not touched by what ends every command. -/
@[simp] theorem State.finish_queue (s : State) : s.finish.link.queue = s.link.queue := by
  unfold State.finish State.updateRts
  rcases s.holdWaiting_cases with h | ⟨-, -, h⟩ <;> rw [h] <;>
  rcases State.chooseFrame_cases _ with h | ⟨r, h⟩ | ⟨n, rest, -, h⟩ <;> rw [h] <;>
  rcases State.resumeHalted_cases _ with h | ⟨c, h⟩ <;> rw [h] <;> rfl

/-! ## The notice queue -/

/-- A merge keeps the number of entries. -/
theorem mergeNotice_length {b : NoticeBody} {q q' : List Notice} (h : mergeNotice b q = some q') :
    q'.length = q.length := by
  induction q generalizing q' with
  | nil => simp [mergeNotice] at h
  | cons n rest ih =>
    unfold mergeNotice at h
    split at h
    · cases h; rfl
    · obtain ⟨r, hr, rfl⟩ := Option.map_eq_some_iff.mp h
      simp [ih hr]

/-- A merge fails exactly when no entry has the notice's subject. -/
theorem mergeNotice_eq_none {b : NoticeBody} {q : List Notice} :
    mergeNotice b q = none ↔ ∀ n ∈ q, n.body.sameSubject b = false := by
  induction q with
  | nil => simp [mergeNotice]
  | cons n rest ih =>
    unfold mergeNotice
    by_cases h : n.body.sameSubject b = true <;> simp_all

/-- A queue of at most 64 entries stays one (R163). -/
theorem queueNotice_length_le (q : List Notice) (b : NoticeBody) (h : q.length ≤ 64) :
    (queueNotice q b).length ≤ 64 := by
  unfold queueNotice
  split
  · rename_i q' hq
    rw [mergeNotice_length hq]; exact h
  · split
    · rename_i hl
      simp [Config.noticeQueueSize] at hl ⊢
      omega
    · split
      · rename_i hp
        obtain ⟨n, hn, hpn⟩ := List.any_eq_true.mp hp
        have hpos := List.length_pos_of_mem hn
        simp [List.length_eraseP_of_mem hn hpn]
        omega
      · exact h

end Sys2Proof.Machine
end

