-- ==== Sys2Proof/Laws/Ops.lean ====
section
/-! SUPPORT. What each shared operation can do, said once: the fields it touches and what it writes there. -/

namespace Sys2Proof.Machine

/-! ## Orders -/

/-- The live order of a number carries it. -/
theorem State.order?_number {s : State} {n : Nat} {o : Order} (h : s.order? n = some o) : o.number = n := by
  simpa using List.find?_some h

/-- The live order of a number stands in the book. -/
theorem State.order?_mem {s : State} {n : Nat} {o : Order} (h : s.order? n = some o) : o ∈ s.book.orders :=
  List.mem_of_find?_eq_some h

/-- A change of an order's record that keeps its number is read back under that number, and no other order
changes. -/
theorem State.order?_modOrder (s : State) (n m : Nat) (f : Order → Order) (hf : ∀ o, (f o).number = o.number) :
    (s.modOrder n f).order? m = (s.order? m).map fun o => if m = n then f o else o := by
  simp only [State.order?, State.modOrder]
  induction s.book.orders with
  | nil => rfl
  | cons o rest ih =>
    simp only [List.map_cons, List.find?_cons]
    by_cases h : o.number = m
    · by_cases hn : o.number = n <;> simp_all
    · have h' : ((if o.number = n then f o else o).number == m) = false := by
        split <;> simp [hf, h]
      have h2 : (o.number == m) = false := by simp [h]
      rw [h', h2]; exact ih

/-- A change of the record of an order that is not live changes nothing. -/
theorem State.modOrder_of_none {s : State} {n : Nat} (h : s.order? n = none) (f : Order → Order) :
    s.modOrder n f = s := by
  have hn : ∀ o ∈ s.book.orders, o.number ≠ n := by
    simpa [State.order?, List.find?_eq_none] using h
  have : s.book.orders.map (fun o => if o.number = n then f o else o) = s.book.orders := by
    conv => rhs; rw [← List.map_id s.book.orders]
    exact List.map_congr_left fun o ho => by simp [hn o ho]
  simp [State.modOrder, this]

/-- The numbers of the live orders do not change with a record that keeps its number. -/
theorem State.modOrder_numbers (s : State) (n : Nat) (f : Order → Order) (hf : ∀ o, (f o).number = o.number) :
    (s.modOrder n f).book.orders.map Order.number = s.book.orders.map Order.number := by
  simp only [State.modOrder, List.map_map]
  refine List.map_congr_left fun o _ => ?_
  simp only [Function.comp]
  split <;> simp [hf]

/-- ORDER_STATE is the only thing a report of an order's state writes. -/
theorem State.notifyOrder_eq (s : State) (n : Nat) :
    s.notifyOrder n = { s with notices := (s.notifyOrder n).notices } := by
  unfold State.notifyOrder
  split <;> rfl

/-- A change of state that is one: the record with the new state, and its ORDER_STATE. -/
theorem State.changeOrder_of_ne {s : State} {n : Nat} {o : Order} {st : OrderState} (h : s.order? n = some o)
    (hst : o.state ≠ st) :
    s.changeOrder n st = (s.modOrder n fun o => { o with state := st }).notify
      (.orderState n st (o.tin.getD 0) o.pendingEnd) := by
  have hm := s.order?_modOrder n n (fun o => { o with state := st }) (fun _ => rfl)
  rw [h] at hm
  simp only [State.changeOrder, h, hst, if_false, State.notifyOrder, hm, Option.map_some, if_true,
    Order.stateNotice, State.order?_number h]

/-- A change of state touches only the book and the notice queue. -/
theorem State.changeOrder_eq (s : State) (n : Nat) (st : OrderState) :
    s.changeOrder n st = { s with
      book := (s.changeOrder n st).book, notices := (s.changeOrder n st).notices } := by
  unfold State.changeOrder
  split
  · split
    · rfl
    · rw [State.notifyOrder_eq]; rfl
  · rfl

/-! ## Fault records -/

/-- A fault against an order touches only the book and the notice queue (R6). -/
theorem State.hold_eq (s : State) (n : Nat) (d : Dest) (k : FaultKind) (x : Bool) (i : Option Nat) :
    s.hold n d k x i = { s with
      book := (s.hold n d k x i).book, notices := (s.hold n d k x i).notices } := by
  unfold State.hold
  split
  · rfl
  · split
    · rfl
    · rw [State.notifyOrder_eq]; rfl

/-- A fault record in place stays (R6). -/
theorem State.hold_of_fault {s : State} {n : Nat} {o : Order} (h : s.order? n = some o)
    (hf : o.fault.isSome = true) (d : Dest) (k : FaultKind) (x : Bool) (i : Option Nat) :
    s.hold n d k x i = s := by
  simp [State.hold, h, hf]

/-- The end of a fault touches only the book and the notice queue (R6). -/
theorem State.unhold_eq (s : State) (n : Nat) :
    s.unhold n = { s with book := (s.unhold n).book, notices := (s.unhold n).notices } := by
  unfold State.unhold
  split
  · rfl
  · split
    · rw [State.notifyOrder_eq]; rfl
    · rfl

/-- A fault of a bay, the lidder or a transfer touches only the book and the notice queue. -/
theorem State.faultAtDest_eq (s : State) (n : Nat) (d : Dest) (k : FaultKind) (x : Bool) :
    s.faultAtDest n d k x = { s with
      book := (s.faultAtDest n d k x).book, notices := (s.faultAtDest n d k x).notices } := by
  unfold State.faultAtDest State.notify
  rw [State.hold_eq]

/-- A fault of the station touches the station's state, the book and the notice queue (R86). -/
theorem State.raise_eq (s : State) (k : FaultKind) (i : Option Nat) (x : FaultDetail) (st : StationState) :
    s.raise k i x st = { s with
      book := (s.raise k i x st).book, notices := (s.raise k i x st).notices
      station := { s.station with state := st } } := by
  unfold State.raise State.goto State.notify State.modStation
  rw [State.hold_eq]

/-! ## Freeing -/

/-- Freeing touches the book, the lanes and the notice queue (R20). -/
theorem State.freeOrder_eq (s : State) (n : Nat) (r : EndReason) :
    s.freeOrder n r = { s with
      book := (s.freeOrder n r).book, lanes := (s.freeOrder n r).lanes
      notices := (s.freeOrder n r).notices } := by
  unfold State.freeOrder
  split <;> rfl

/-- A freed order is no live order (R20). -/
theorem State.order?_freeOrder (s : State) (n : Nat) (r : EndReason) : (s.freeOrder n r).order? n = none := by
  unfold State.freeOrder
  split
  · assumption
  · simp [State.order?, State.notify, List.find?_eq_none]

/-- Freeing an order leaves every other (R20). -/
theorem State.order?_freeOrder_of_ne (s : State) (n m : Nat) (r : EndReason) (h : m ≠ n) :
    (s.freeOrder n r).order? m = s.order? m := by
  unfold State.freeOrder
  split
  · rfl
  · simp only [State.order?, State.notify]
    induction s.book.orders with
    | nil => rfl
    | cons o rest ih =>
      by_cases ho : o.number = n
      · have : (o.number == m) = false := by simp [ho, Ne.symm h]
        simp [ho, ih, Ne.symm h]
      · simp [ho, List.find?_cons, ih]

/-- A lift at a clearing state touches the book, the lanes and the notice queue (R20). -/
theorem State.reportLift_eq (s : State) (n : Nat) :
    s.reportLift n = { s with
      book := (s.reportLift n).book, lanes := (s.reportLift n).lanes, notices := (s.reportLift n).notices } := by
  unfold State.reportLift
  split
  · rw [State.freeOrder_eq]
  · rfl

/-! ## The canister account -/

/-- The record a debit leaves: the level less what was delivered, the mark removed, and the notices that fell due
disarmed (R47 to R49). -/
theorem State.debit_eq (s : State) (p : Position) (n : Nat) :
    s.debit p n = { s with
      canisters := s.canisters.set p (s.canisters[p].debited n).disarmed, notices := (s.debit p n).notices } := by
  unfold State.debit
  dsimp only
  split <;> rfl

/-- Disarming changes only the two armed notices. -/
theorem Canister.disarmed_eq (c : Canister) :
    c.disarmed = { c with lowArmed := c.disarmed.lowArmed, dryArmed := c.disarmed.dryArmed } := by
  unfold Canister.disarmed
  split
  · rfl
  · split <;> rfl

/-- Arming changes only the two armed notices. -/
theorem Canister.rearmed_eq (c : Canister) :
    c.rearmed = { c with lowArmed := c.rearmed.lowArmed, dryArmed := c.rearmed.dryArmed } := rfl

/-- READY is a configured canister of the code, seated, confirmed and holding the steps (R40). -/
theorem Canister.finding_ready {c : Canister} {code steps : Nat} :
    c.finding code steps = .ready ↔
      c.code ≠ 0 ∧ c.code = code ∧ c.seated = true ∧ c.confirmed = true ∧ steps * c.d ≤ c.level - c.floor := by
  unfold Canister.finding Canister.configured Canister.usable
  split
  · rename_i h; simp at h; constructor
    · intro h'; cases h'
    · rintro ⟨h0, h1, -⟩; rcases h with h | h <;> contradiction
  · rename_i h; simp at h
    split
    · rename_i h2; simp at h2; simp [h2]
    · split
      · rename_i h3; simp at h3; simp [h3]
      · rename_i h2 h3; simp at h2 h3
        split
        · rename_i h4; simp; omega
        · rename_i h4; simp [h, h2, h3]; omega

/-! ## Tin ids -/

/-- The next tin id is one of 1 to 255. -/
theorem Book.nextTin_range (b : Book) : 1 ≤ b.nextTin ∧ b.nextTin ≤ 255 := by
  unfold Book.nextTin
  dsimp only
  cases h : ((List.range 255).map fun k => (b.lastTin + k) % 255 + 1).find? fun id => !b.holdsTin id with
  | none => simp; omega
  | some id =>
    obtain ⟨k, -, rfl⟩ := List.mem_map.mp (List.mem_of_find?_eq_some h)
    simp; omega

/-! ## Strokes -/

/-- A stroke begins with its position marked drawing and the station STROKING, and nothing else (R40, R81). -/
theorem State.beginStroke_eq (s : State) (p : Position) :
    s.beginStroke p = { s with
      canisters := s.canisters.set p { s.canisters[p] with drawing := true }
      station := { s.station with state := .stroking, finding := none } } := rfl

/-- The end of a stroke touches the canister account, the notice queue and the station's records (R81). -/
theorem State.endStroke_eq (s : State) (count : Option Nat) :
    s.endStroke count = { s with
      canisters := (s.endStroke count).canisters, notices := (s.endStroke count).notices
      station := { s.station with
        plan := (s.endStroke count).station.plan, cur := (s.endStroke count).station.cur } } := by
  unfold State.endStroke
  split
  · rfl
  · split
    · dsimp only; rw [State.debit_eq]; rfl
    · rfl

/-- What the stroke-start check can do: nothing, a fault, a stroke on a READY canister under a carousel that stands
there, or a wait (R79). -/
theorem State.strokeCheck_cases (s : State) :
    s.strokeCheck = s ∨
    (∃ c e k, s.current? = some (c, e) ∧ (k = .lidded ∨ k = .lost) ∧
      (s.strokeCheck = s.fault k (some c.index) .none ∨
        s.strokeCheck = (s.setEntry c.index .partialShot).fault k (some c.index) .none)) ∨
    (∃ c e p n, s.current? = some (c, e) ∧ e.pos = some p ∧ c.strokes[c.ended]? = some n ∧
      s.servedLidded = false ∧ s.positioned p = true ∧ s.canisters[p].finding e.code n = .ready ∧
      s.strokeCheck = s.beginStroke p) ∨
    (∃ c e p f, s.current? = some (c, e) ∧ e.pos = some p ∧ f ≠ .ready ∧
      s.strokeCheck = s.waitCanister p e.code f) := by
  unfold State.strokeCheck
  split
  · exact .inl rfl
  · rename_i c e hc
    split
    · rename_i p n hp hn
      split
      · exact .inr (.inl ⟨c, e, .lidded, hc, .inl rfl, .inl rfl⟩)
      · rename_i hl
        split
        · refine .inr (.inl ⟨c, e, .lost, hc, .inr rfl, ?_⟩)
          split
          · exact .inl rfl
          · exact .inr rfl
        · rename_i hpos
          cases hf : s.canisters[p].finding e.code n
          · exact .inr (.inr (.inl ⟨c, e, p, n, hc, hp, hn, by simpa using hl, by simpa using hpos, hf, rfl⟩))
          all_goals exact .inr (.inr (.inr ⟨c, e, p, _, hc, hp, by simp, rfl⟩))
    · exact .inl rfl

/-! ## The serving of entries -/

/-- The draw of a position shown in motion touches the counter of free values alone (log 10). -/
theorem State.drawnInMotion_eq (s : State) : s.drawnInMotion = { s with freeCount := s.drawnInMotion.freeCount } := by
  unfold State.drawnInMotion
  split <;> rfl

/-- A carousel that stands shows its position, and no draw is taken. -/
theorem State.shownPosition_of_standing {s : State} (h : s.positioner.move = none) :
    s.shownPosition = s.positioner.position ∧ s.drawnInMotion = s := by
  simp [State.shownPosition, State.drawnInMotion, h]

/-- A plan whose entries are none of them PARTIAL with a stale mark is ready as it stands (R70, R78). -/
theorem State.readyPlan_of_fresh (s : State) (o : Order) (p : PlanContext) (fuel : Nat)
    (h : ∀ e ∈ p.entries, ¬(e.state = .partialShot ∧ s.staleMark e = true)) : s.readyPlan o p fuel = .ok p := by
  cases fuel with
  | zero => rfl
  | succ n =>
    unfold State.readyPlan
    split
    · rename_i i e hi
      obtain ⟨j, -, hj⟩ := Option.bind_eq_some_iff.mp hi
      obtain ⟨e', he, heq⟩ := Option.map_eq_some_iff.mp hj
      cases heq
      rw [if_neg (h e (List.mem_of_getElem? he))]
    · rfl

/-- What serving the next entry can do: complete the round, wait for starts, raise PLAN without a plan, or serve from a
plan that is ready (R67, R77, R78). -/
theorem State.serveNext_cases (s : State) :
    ∃ u : State, u = s.modPlan (fun p => { p with entries := p.entries.map Entry.closeIfEmpty }) ∧
      (s.serveNext = u.completeRound ∨
       (u.startsAllowed = false ∧ s.serveNext = u.holdAt .next) ∨
       (u.startsAllowed = true ∧ ∃ f, s.serveNext = u.planFault f) ∨
       (u.startsAllowed = true ∧ ∃ o p q n, u.order? u.served = some o ∧ u.station.plan = some p ∧
         u.readyPlan o p n = .ok q ∧
         s.serveNext = (u.modStation fun st => { st with plan := some q }).serveReady)) := by
  refine ⟨_, rfl, ?_⟩
  unfold State.serveNext
  dsimp only
  split
  · rename_i o p ho hp
    split
    · exact .inl rfl
    · split
      · rename_i h; exact .inr (.inl ⟨by simpa using h, rfl⟩)
      · rename_i h
        split
        · exact .inr (.inr (.inl ⟨by simpa using h, _, rfl⟩))
        · rename_i q hq
          exact .inr (.inr (.inr ⟨by simpa using h, o, p, q, _, ho, hp, hq, rfl⟩))
  · exact .inl rfl

/-- What the taking up of an entry again can do: go on as it stands when it is not PARTIAL, raise PLAN without a plan, go
on with it, or give way to the next entry (R67, R70, R87). -/
theorem State.rework_cases (s : State) (i : Nat) (served : Bool) (go : State → State) :
    s.rework i served go = s ∨
    (s.isPartial i = false ∧ s.rework i served go = go s) ∨
    (s.isPartial i = true ∧ ∃ f, s.rework i served go = s.planFault f) ∨
    (s.isPartial i = true ∧ ∃ q, s.rework i served go = go (s.modStation fun st => { st with plan := some q }) ∨
      s.rework i served go = (s.modStation fun st => { st with plan := some q }).needReading.serveNext) := by
  unfold State.rework
  split
  · split
    · rename_i hp
      split
      · exact .inr (.inr (.inl ⟨hp, _, rfl⟩))
      · rename_i q _
        refine .inr (.inr (.inr ⟨hp, q, ?_⟩))
        dsimp only
        split
        · exact .inl rfl
        · exact .inr rfl
    · rename_i hp
      exact .inr (.inl ⟨by simpa using hp, rfl⟩)
  · exact .inl rfl

/-- A top-up keeps the whole expected mass: what the target is lowered by is remembered, and restored when a further
reduced top-up gets no addition (R37, log 43). -/
theorem CurrentEntry.topUpTarget_whole (c : CurrentEntry) (t : Target) (up : TopUp) (adds : Bool)
    (h : up.rest ≤ t.mass) :
    (c.topUpTarget t up adds).1.mass + (c.topUpTarget t up adds).2 = t.mass + c.lowered ∧
      (c.topUpTarget t up adds).1.tol = t.tol := by
  unfold CurrentEntry.topUpTarget
  split
  · exact ⟨by dsimp only; omega, rfl⟩
  · split <;> exact ⟨rfl, rfl⟩

/-- Taking a remainder touches the remainder alone (R38, R69). -/
theorem State.withRemainder_eq (s : State) (e : Entry) :
    s.withRemainder e = { e with owed := (s.withRemainder e).owed } := by
  unfold State.withRemainder
  split <;> rfl

/-- A PENDING entry is served as a SHOT (R78). -/
theorem State.servedRemainder_of_pending (s : State) {e : Entry} (h : e.state = .pending) :
    s.servedRemainder e = none := by
  simp [State.servedRemainder, h]

/-- A remainder kept with an entry that is not PENDING is the one it is served with (R69, R87). -/
theorem State.servedRemainder_of_owed (s : State) {e : Entry} {r : Remainder} (h : e.state ≠ .pending)
    (hr : e.owed = some r) : s.servedRemainder e = some r := by
  simp [State.servedRemainder, h, hr]

/-! ## Bays and records -/

/-- BAY_BRAKE_END in HALTED and in CLEARING releases the brake and does nothing else (R127, R129, log 28). -/
theorem State.brakeEnds_of_held {s : State} {b : BayId} (h : (s.bay b).state ∈ [BayState.halted, .clearing]) :
    s.brakeEnds b = s.modBay b fun y => { y with brake := false } := by
  simp only [List.mem_cons, List.not_mem_nil, or_false] at h
  rcases h with h | h <;> simp [State.brakeEnds, h]

/-- A changed bay is read back. -/
theorem State.bay_modBay (s : State) (b : BayId) (f : Bay → Bay) : (s.modBay b f).bay b = f (s.bay b) := by
  cases b <;> rfl

/-- A changed bay leaves the other. -/
theorem State.bay_modBay_of_ne (s : State) (b c : BayId) (f : Bay → Bay) (h : c ≠ b) :
    (s.modBay b f).bay c = s.bay c := by
  cases b <;> cases c <;> first | rfl | exact absurd rfl h

/-- Two changes of one bay are one. -/
theorem State.modBay_modBay (s : State) (b : BayId) (f g : Bay → Bay) :
    (s.modBay b f).modBay b g = s.modBay b fun y => g (f y) := by
  cases b <;> rfl

/-- A transfer record set is read back. -/
theorem State.record_setRecord (s : State) (d : Dest) (t : Option Transfer) : (s.setRecord d t).record d = t := by
  cases d with
  | bay b => cases b <;> rfl
  | _ => rfl

/-- A transfer record set leaves every other. -/
theorem State.record_setRecord_of_ne (s : State) (d e : Dest) (t : Option Transfer) (h : e ≠ d) :
    (s.setRecord d t).record e = s.record e := by
  cases d with
  | bay b =>
    cases b <;> cases e with
    | bay c => cases c <;> first | rfl | exact absurd rfl h
    | _ => rfl
  | _ =>
    cases e with
    | bay c => cases c <;> rfl
    | _ => first | rfl | exact absurd rfl h

/-- A magazine's count set is read back, and every other stays (R135). -/
theorem Magazines.count_set (m : Magazines) (c k : TinClass) (n : Nat) :
    (m.set c n).count k = if k = c then n else m.count k := by
  cases c <;> cases k <;> rfl

/-! ## Notices gathered at an e-stop -/

/-- Notices appended one after another touch the notice queue alone. -/
theorem State.foldl_notify (l : List NoticeBody) (s : State) :
    l.foldl State.notify s = { s with notices := l.foldl queueNotice s.notices } := by
  induction l generalizing s with
  | nil => rfl
  | cons a r ih => simp only [List.foldl_cons, ih]; rfl

/-- Lists appended in a free order: every notice of every list, each list's own in their order, and nothing but the
notice queue and the counter of the free values changes (R148, log 9). -/
theorem State.appendAnyOrder_eq (fuel : Nat) : ∀ (s : State) (ls : List (List NoticeBody)),
    ls.flatten.length ≤ fuel →
    ∃ own : List NoticeBody, own.Perm ls.flatten ∧ (∀ l ∈ ls, l.Sublist own) ∧
      s.appendAnyOrder fuel ls = { s with
        notices := own.foldl queueNotice s.notices, freeCount := (s.appendAnyOrder fuel ls).freeCount } := by
  induction fuel with
  | zero =>
    intro s ls h
    refine ⟨[], ?_, ?_, rfl⟩
    · have : ls.flatten = [] := List.length_eq_zero_iff.mp (Nat.le_zero.mp h)
      rw [this]
    · intro l hl
      have : ls.flatten = [] := List.length_eq_zero_iff.mp (Nat.le_zero.mp h)
      have := List.flatten_eq_nil_iff.mp this l hl
      simp [this]
  | succ n ih =>
    intro s ls h
    have hfl : ∀ ls : List (List NoticeBody), (ls.filter fun l => !l.isEmpty).flatten = ls.flatten := by
      intro ls
      induction ls with
      | nil => rfl
      | cons a r ih => cases a <;> simp_all
    have hsub : ∀ own, (∀ l ∈ ls.filter fun l => !l.isEmpty, l.Sublist own) → ∀ l ∈ ls, l.Sublist own := by
      intro own ho l hl
      cases l with
      | nil => simp
      | cons a r => exact ho _ (by simp [hl])
    unfold State.appendAnyOrder
    have hlen : ((ls.filter fun l => !l.isEmpty).flatten).length ≤ n + 1 := by rw [hfl]; exact h
    rw [← hfl ls]
    have hpos : ∀ l ∈ ls.filter fun l => !l.isEmpty, l ≠ [] := by
      intro l hl; have := (List.mem_filter.mp hl).2
      intro h
      simp [h] at this
    revert hlen hsub hpos
    generalize (ls.filter fun l => !l.isEmpty) = ks
    intro hsub hlen hpos
    match ks, hlen, hsub, hpos with
    | [], _, hsub, _ => exact ⟨[], by simp, hsub [] (by simp), rfl⟩
    | [l], _, hsub, _ =>
      refine ⟨l, by simp, hsub l (by simp), ?_⟩
      simp only [State.foldl_notify]
    | l :: m :: rest, hlen, hsub, hpos =>
      dsimp only
      have hk : s.draw % (l :: m :: rest).length < (l :: m :: rest).length := Nat.mod_lt _ (by simp)
      generalize hkk : s.draw % (l :: m :: rest).length = k at hk
      generalize hK : l :: m :: rest = K at *
      have hget : K.getD k [] = K[k] := by simp [List.getD, hk]
      rw [hget]
      have hne : K[k] ≠ [] := hpos _ (List.getElem_mem hk)
      cases hh : K[k] with
      | nil => exact absurd hh hne
      | cons b t =>
        simp only [List.head?_cons]
        have hmod : K.modify k List.tail = K.set k t := by
          rw [List.modify_eq_set_getElem?]; simp [hk, hh]
        have hdec : K = K.take k ++ K[k] :: K.drop (k + 1) := by simp
        have hset : K.set k t = K.take k ++ t :: K.drop (k + 1) := by rw [List.set_eq_take_append_cons_drop]; simp [hk]
        have hperm : K.flatten.Perm (b :: (K.set k t).flatten) := by
          rw [hset]
          conv => lhs; rw [hdec, hh]
          simp only [List.flatten_append, List.flatten_cons, List.cons_append]
          exact List.perm_middle
        have hl2 : (K.set k t).flatten.length ≤ n := by
          have := hperm.length_eq
          simp only [List.length_cons] at this
          omega
        obtain ⟨own, hp, hs, he⟩ := ih (s.drawn.notify b) (K.set k t) hl2
        rw [hmod]
        refine ⟨b :: own, (hp.cons b).trans hperm.symm, ?_, ?_⟩
        · apply hsub
          intro x hx
          rw [hdec, hh] at hx
          simp only [List.mem_append, List.mem_cons] at hx
          rcases hx with hx | hx | hx
          · exact (hs x (by rw [hset]; simp [hx])).cons b
          · rw [hx]; exact (hs t (by rw [hset]; simp)).cons_cons b
          · exact (hs x (by rw [hset]; simp [hx])).cons b
        · rw [he]; rfl

end Sys2Proof.Machine
end

