-- ==== Sys2Proof/Tests/Slice0.lean ====
section
/-! SUPPORT. The tests: terms WellFormed refuses, the spec's worked figures, and for every statement with hypotheses
a witness that its hypotheses can be met together. -/

namespace Sys2Proof.Tests

set_option Elab.async false

open Sys2Proof.Machine

/-! ## States to test on -/

/-- The canister of section 2.3 at position 6, as section 5.4 finds it. -/
def can6 : Canister :=
  { code := 61, d := 1875, rho := 1320, c := 8000, m := 40, capacity := 500, floor := 5000000, low := 10,
    level := 60000000, seated := true, confirmed := true, lowArmed := true, dryArmed := true, mark := 1 }

/-- A RUNNING line, the carousel HOMED at 0, the canister of section 2.3 at position 6. -/
def running : State :=
  { State.reset with
    canisters := State.reset.canisters.set 6 can6
    positioner := { State.reset.positioner with state := .homed }
    line := { State.reset.line with mode := .running } }

/-- The line of section 2.3. -/
def line0 : FormulaLine := { index := 0, code := 61, amount := 1250 }

/-- The order of section 11.7, in a state. -/
def order (st : OrderState) : Order :=
  { number := 930, admission := 1, rush := false, cls := .C, fill := 2500, vref := 1000, strength := 1000,
    profile := .standard, holdOpen := false, rounds := [{ lines := [line0], delivered := false }], state := st,
    beforeHold := none, tin := some 14, route := { dispense := true, mix := true, lid := true }, lidOnly := false,
    fromSlot := false, delivered := 0, flags := {}, pendingEnd := none, partialPlan := none, fault := none }

/-- A state with one live order. -/
def withOrder (s : State) (o : Order) : State :=
  { s with book := { orders := [o], admission := 1, lastTin := 14, slot := none } }

/-- The entry of section 2.3, in a state. -/
def entry (st : EntryState) : Entry :=
  { round := 0, line := 0, code := 61, pos := some 6, mark := 1, d := 1875, rho := 1320, steps := 16667,
    strokes := 3, volume := 31250625, mass := some 41251, tol := 825, flags := {}, state := st }

/-- The plan of section 2.3. -/
def plan (e : Entry) : PlanContext :=
  { order := 930, round := 0, lines := [], entries := [e], gentle := false, sum := 31250625,
    available := 250000000 }

/-- The shot of section 5.4 before its first stroke. -/
def shot : CurrentEntry :=
  { index := 0, phase := .shot, target := some { mass := 41251, tol := 825 }, judged := 0, carried := 0,
    start := some 3412560, strokes := [5556, 5556, 5555], ended := 0, counted := 0, delivered := 0,
    countPresent := true, topupUsed := false, hostMass := none }

/-- The tin of section 5.4 on the station. -/
def tinC : TinContext :=
  { id := 14, cls := .C, tare := some 3412560, last := some 3412560, entryStart := some 3412560, lid := false }

/-- The station serving section 5.4's shot, in a state. -/
def serving (st : StationState) : Station :=
  { Station.start with
    state := st, order := some 930, tin := some tinC, plan := some (plan (entry .active)), cur := some shot,
    settleFor := .verdict, present := true, size := .C }

/-- The line of section 5.4: the carousel HOMED at 6, the canister drawn on in STROKING. -/
def dosing (st : StationState) : State :=
  { withOrder running (order .dispensing) with
    canisters := State.reset.canisters.set 6 { can6 with drawing := st == .stroking }
    positioner := { running.positioner with position := 6 }
    station := serving st }

/-- A request that waits as the oldest without a reply. -/
def asked (s : State) (kind tag : Byte) (p : List Byte) : State :=
  { s with link := { s.link with
      queue := s.link.queue ++ [{ kind := kind, tag := tag, payload := p, reply := none }] } }

/-- A request that arrives at an empty input queue of a working controller is taken. -/
theorem takes_asked (s : State) (kind tag : Byte) (p : List Byte) (hw : s.supply.warned = false)
    (hq : s.link.queue = []) : s.Takes (asked s kind tag p) kind tag p := by
  refine ⟨hw, ?_⟩
  simp [State.offer, hq, asked, Config.inputQueueSize]

/-- The state a command answers with. -/
def after (s : State) (c : Instr) : State :=
  match exec c s with
  | .next t => t
  | _ => s

/-- The states a list of commands leads to. -/
def afterAll (s : State) (cs : List Instr) : State := cs.foldl after s

/-- Quantities of 1, 2 and 8 bytes. -/
def b1 (n : Nat) : List Byte := Bytes.ofNat 1 n
/-- A quantity of 2 bytes. -/
def b2 (n : Nat) : List Byte := Bytes.ofNat 2 n

/-- The ORDER_SUBMIT payload of the order of section 11.7. -/
def submit930 : List Byte :=
  b2 930 ++ b1 0 ++ b1 3 ++ b2 2500 ++ b2 1000 ++ b2 1000 ++ b1 0 ++ b1 1 ++ b1 61 ++ b2 1250

/-- The CANISTER_SET payload of section 2.3's canister at position 6. -/
def set6 : List Byte :=
  b1 6 ++ b1 61 ++ b1 0 ++ b2 1875 ++ b2 1320 ++ b2 8000 ++ b2 40 ++ b2 500 ++ Bytes.ofNat 8 5000000 ++ b2 10
    ++ Bytes.ofNat 8 60000000

/-- A running line with the request taken next in its queue: the status of the reply it gets. -/
def statusOf (s : State) (c : Instr) : Option Status :=
  (after s c).link.queue.head?.bind fun e => e.reply.map Reply.status

/-- The body of the reply a request gets. -/
def bodyOf (s : State) (c : Instr) : Option ReplyBody :=
  (after s c).link.queue.head?.bind fun e => e.reply.map Reply.body

/-! ## WellFormed refuses -/

/-- A payload of 241 bytes. -/
def longPayload : List Byte := List.replicate 241 0

theorem test_wf_payload_too_long : (Instr.ident 0 longPayload).wellFormed = false := by decide +kernel
theorem test_wf_payload_fits : (Instr.orderSubmit 0 submit930).wellFormed = true := by decide +kernel
theorem test_wf_retry_shot_of_another_action :
    (Instr.resolveRetryShot 0 (b2 930 ++ b1 1)).wellFormed = false := by decide +kernel
theorem test_wf_skip_shot_of_another_action :
    (Instr.resolveSkipShot 0 (b2 930 ++ b1 0)).wellFormed = false := by decide +kernel
theorem test_wf_accept_of_another_action : (Instr.resolveAccept 0 (b2 930 ++ b1 0)).wellFormed = false := by
  decide +kernel
theorem test_wf_retry_of_another_action : (Instr.resolveRetry 0 (b2 930 ++ b1 0)).wellFormed = false := by
  decide +kernel
theorem test_wf_confirm_of_another_action :
    (Instr.resolveConfirm 0 (b2 930 ++ b1 0)).wellFormed = false := by decide +kernel
theorem test_wf_pass_of_another_action : (Instr.resolvePass 0 (b2 930 ++ b1 0)).wellFormed = false := by
  decide +kernel
theorem test_wf_scrap_of_another_action : (Instr.resolveScrap 0 (b2 930 ++ b1 0)).wellFormed = false := by
  decide +kernel
theorem test_wf_remake_of_another_action : (Instr.resolveRemake 0 (b2 930 ++ b1 0)).wellFormed = false := by
  decide +kernel
theorem test_wf_cancel_of_another_action : (Instr.resolveCancel 0 (b2 930 ++ b1 0)).wellFormed = false := by
  decide +kernel
theorem test_wf_release_of_another_action :
    (Instr.resolveRelease 0 (b2 930 ++ b1 0)).wellFormed = false := by decide +kernel
theorem test_wf_manual_done_with_skip :
    (Instr.manualDone 0 (b2 930 ++ b1 0 ++ b1 1 ++ Bytes.ofNat 4 0)).wellFormed = false := by decide +kernel
theorem test_wf_manual_skip_without_skip :
    (Instr.manualSkip 0 (b2 930 ++ b1 0 ++ b1 0 ++ Bytes.ofNat 4 0)).wellFormed = false := by decide +kernel
theorem test_wf_unknown_kind_that_is_listed : (Instr.unknownKindRequest 0x10 0 []).wellFormed = false := by
  decide +kernel
theorem test_wf_no_bytes_received : (Instr.frameReceived []).wellFormed = false := by decide +kernel
theorem test_wf_length_byte_240 : (Instr.lengthByteOver240 [0xA5, 0xF0]).wellFormed = false := by decide +kernel
theorem test_wf_sample_off_its_grid : (Instr.weighSample 15 false).wellFormed = false := by decide +kernel
theorem test_wf_sample_above_range : (Instr.weighSample 30000010 false).wellFormed = true := by decide +kernel
theorem test_wf_move_beyond_twelve : (Instr.moveTimeout 13).wellFormed = false := by decide +kernel
theorem test_wf_estop_beyond_twelve : (Instr.estopChainOpen none 13).wellFormed = false := by decide +kernel
theorem test_wf_warning_beyond_twelve : (Instr.supplyWarning none 13).wellFormed = false := by decide +kernel

/-! ## The table's words -/

/-- The table gives no row any bits, so no word spells a command, and none is put in the queue. -/
theorem test_no_word_spells_a_command :
    decodeTableWord 8 0x01 = none ∧ State.reset.withFetchWord 8 0x01 = State.reset := ⟨rfl, rfl⟩

/-! ## The spec's worked figures -/

/-- Section 2.3: 16,667 steps, 31,250,625 nL, 41,251 ± 825 mg, strokes 5556, 5556 and 5555. -/
theorem test_one_line :
    lineSteps { fill := 2500, vref := 1000, strength := 1000 } 1250 1875 = 16667 ∧
    massOf (16667 * 1875) 1320 = 41251 ∧ tolerance Settings.defaults 41251 = 825 ∧
    strokesOf 16667 8000 = [5556, 5556, 5555] := by decide +kernel

/-- Section 2.3: one rounding gives 11 steps where two would give 12. -/
theorem test_one_rounding :
    lineSteps { fill := 171, vref := 200, strength := 2690 } 1 2000 = 11 ∧
    requiredVolume { fill := 171, vref := 200, strength := 2690 } 1 = 23000 := by decide +kernel

/-- Section 2.3: 17 steps are TRIMMED and 23 are CLAMPED_UP to 40. -/
theorem test_minimum_shot : minimumShot 17 40 = .trimmed ∧ minimumShot 23 40 = .clamped 40 := by decide +kernel

/-- Section 6.4, cases 1 to 9: the verdict on each kind of evidence. -/
theorem test_verdicts :
    let c : CurrentEntry := { shot with counted := 16667 }
    let lost : CurrentEntry := { shot with countPresent := false }
    verdictOf c false (increment (some 3412560) (some 3453700)) = .pass ∧
    verdictOf c false (increment (some 3412560) (some 3452680)) = .under ∧
    verdictOf c false (increment (some 3412560) (some 3455010)) = .over ∧
    verdictOf { shot with counted := 16200 } false (increment (some 3412560) (some 3440860)) = .stall ∧
    verdictOf c false none = .pass ∧ verdictOf c true none = .unweighed ∧
    verdictOf lost false (increment (some 3412560) (some 3453700)) = .pass ∧
    verdictOf lost false none = .sensor ∧
    verdictOf c false (increment (some 3412560) (some 3412550)) = .under := by decide +kernel

/-- Section 3.5: 6 to 20 goes backward 10 places over the boundary; 12 places go forward (R55). -/
theorem test_moves :
    moveRecord 6 20 = { origin := 6, target := 20, direction := .backward, places := 10, expected := 1, passes := 0 } ∧
    (moveRecord 6 18).direction = .forward ∧ (moveRecord 18 6).direction = .forward ∧
    (moveRecord 18 6).expected = 1 := by decide +kernel

/-- Section 10.1: the check bytes of a frame are found right, and a changed byte is not taken. -/
theorem test_frame_scan :
    scanAt (frameBytes 0x02 7 []) = .frame 0x02 7 [] [] ∧
    scanAt ((frameBytes 0x02 7 []).set 2 0x03) = .drop := by decide +kernel

/-- The check value of the CRC of R158 (polynomial 0x1021, start 0xFFFF) on the text 123456789. -/
theorem test_crc_check_value :
    crc16 [0x31, 0x32, 0x33, 0x34, 0x35, 0x36, 0x37, 0x38, 0x39] = 0x29B1#16 := by decide +kernel

/-! ## What commands do -/

/-- Section 10.3: an IDENT is answered OK with the part's counts. -/
theorem test_ident : statusOf State.reset (.ident 7 []) = some .ok ∧
    bodyOf State.reset (.ident 7 []) = some (.ident [0x57, 0x4B, 0x56, 0x2D, 0x32, 0x34, 0x30, 0x36]
      Config.hardwareRevision Config.firmwareRevision 24 2 6) := ⟨rfl, rfl⟩
/-- R161: STATUS clears the supply-warned mark, and its own reply still carries it. -/
theorem test_status_clears_mark :
    (after State.reset (.status 1 [])).link.warnedMark = false ∧
    ((after State.reset (.status 1 [])).link.queue.map fun e => e.reply.map fun r => r.flags.supplyWarned) =
      [some true] := by decide +kernel
/-- Section 2.3: the order is QUEUED with sequence 1 and planned at 31,250,625 nL. -/
theorem test_submit :
    bodyOf running (.orderSubmit 1 submit930) = some (.submitted 1
      { automatic := 1, manual := 0, trimmed := 0, clampedUp := 0, total := 31250625 }) ∧
    (after running (.orderSubmit 1 submit930)).book.orders.map Order.state = [.queued] := by decide +kernel
/-- R8 check 3: the same number again is DUPLICATE_ORDER. -/
theorem test_submit_duplicate :
    statusOf (withOrder running (order .queued)) (.orderSubmit 1 submit930) = some .duplicateOrder := by
  decide +kernel
/-- R14: a QUEUED order is cancelled at once. -/
theorem test_cancel_queued :
    (after (withOrder running (order .queued)) (.orderCancel 1 (b2 930))).book.orders = [] := by decide +kernel
/-- R16: a DISPENSED order is TOO_LATE. -/
theorem test_cancel_too_late :
    statusOf (withOrder running (order .dispensed)) (.orderCancel 1 (b2 930)) = some .tooLate := by decide +kernel
/-- R17: an approved order is RETURNING in the slot. -/
theorem test_approve :
    (after (withOrder State.reset (order .check)) (.orderApprove 1 (b2 930))).book.slot = some 930 := by
  decide +kernel
/-- R42, section 5.4: the canister of section 2.3 is taken, confirmed with its mark advanced. -/
theorem test_canister_set :
    (after State.reset (.canisterSet 1 set6)).canisters[(6 : Fin 24)] =
      { can6 with seated := false } := by decide +kernel
/-- R42: a level above the capacity is ADJUSTED. -/
theorem test_canister_set_adjusted :
    statusOf State.reset (.canisterSet 1 (set6.take 23 ++ Bytes.ofNat 8 500000001)) = some .adjusted := by
  decide +kernel
/-- R44: 1,000 µL are 1,000,000 nL. -/
theorem test_refill :
    (after running (.canisterRefill 1 (b1 6 ++ Bytes.ofNat 4 1000))).canisters[(6 : Fin 24)].level = 61000000 := by
  decide +kernel
/-- R45: a cleared position keeps its switch and advances its mark. -/
theorem test_clear :
    (after running (.canisterClear 1 (b1 6))).canisters[(6 : Fin 24)] = { seated := true, mark := 2 } := by
  decide +kernel
/-- R52: entry 2 covers 10 to 20 with HOLD. -/
theorem test_class_set :
    (after running (.classSet 1 [2, 1, 10, 20, 4])).classes[(2 : Fin 6)] =
      { enabled := true, first := 10, last := 20, hold := true } := by decide +kernel
/-- R135: 90 lids are 80, ADJUSTED. -/
theorem test_lids :
    (after running (.lidsLoaded 1 [3, 90])).lidder.magazines.c = 80 ∧
    statusOf running (.lidsLoaded 1 [3, 90]) = some .adjusted := by decide +kernel
/-- Section 6.6: tol_abs 100 and tol_pm 150 are stored as 100 and 100, ADJUSTED. -/
theorem test_settings :
    (after running (.settingsSet 1
      (b2 100 ++ b2 150 ++ b2 1500 ++ b2 90 ++ b2 180 ++ b2 120 ++ b2 45))).settings =
      { Settings.defaults with tolAbs := 100, tolPm := 100 } := by decide +kernel
/-- R145: LINE_RUN over an UNHOMED carousel asks for homing, and RUNNING follows it. -/
theorem test_run_homes_first :
    (after State.reset (.lineRun 1 [])).line.pendingMode = some .run ∧
    (afterAll State.reset [.lineRun 1 [], .homePass false none, .homingComplete]).line.mode = .running := by
  decide +kernel
/-- R146: with every station at rest a pause is complete at once. -/
theorem test_pause : (after running (.linePause 1 [])).line.mode = .paused := by decide +kernel
/-- R148, R149: an opening stops the line, and STOP_RESET needs the chain closed. -/
theorem test_estop_and_reset :
    (after running (.estopChainOpen none 0)).line.mode = .stopped ∧
    statusOf (after running (.estopChainOpen none 0)) (.stopReset 1 []) = some .mode ∧
    (afterAll running [.estopChainOpen none 0, .estopChainClose, .stopReset 1 []]).line.mode = .paused := by
  decide +kernel
/-- R12: the tin binds the order, and the next id is 15. -/
theorem test_binding :
    (after (withOrder running { order .queued with tin := none }) (.intakeTinPlaced .C false)).book.orders.map
      (fun o => (o.state, o.tin)) = [(.bound, some 15)] := by decide +kernel
/-- R11: a lidded tin is refused. -/
theorem test_lidded_refused :
    (after running (.intakeTinPlaced .C true)).intake.state = .refused := by decide +kernel
/-- Section 5.4: the stroke's 5556 steps are debited at 1875 nL each. -/
theorem test_first_stroke :
    (after (dosing .stroking) (.pumpComplete (some 5556))).canisters[(6 : Fin 24)].level = 49582500 ∧
    (after (dosing .stroking) (.pumpComplete (some 5556))).station.state = .stroking := by decide +kernel
/-- R81: a short count ends the phase in SETTLING. -/
theorem test_short_stroke :
    (after (dosing .stroking) (.pumpComplete (some 5000))).station.state = .settling := by decide +kernel
/-- R81, R86: an expired stroke timer is STALL with the entry PARTIAL. -/
theorem test_stroke_timeout :
    (after (dosing .stroking) (.strokeTimeout (some 100))).station.state = .faultHeld ∧
    ((after (dosing .stroking) (.strokeTimeout (some 100))).entry? 0).map Entry.state = some .partialShot := by
  decide +kernel
/-- R82: an opened switch under the stroke halts it with UNSEATED. -/
theorem test_unseated_in_stroke :
    (after (dosing .stroking) (.seatedSwitchOpen 6 none)).book.orders.map (fun o => o.fault.map FaultRecord.kind) =
      [some .unseated] := by decide +kernel
/-- R99: 16 like samples settle to their mean. -/
theorem test_settle :
    (afterAll (after (dosing .stroking) (.pumpComplete (some 5000)))
      (List.replicate 16 (.weighSample 3412560 false))).weigh.span.length = 16 := by decide +kernel
/-- R170: the warning is taken without a notice and sets the clean mark. -/
theorem test_supply_warning :
    (after running (.supplyWarning none 0)).supply.warned = true ∧
    (after running (.supplyWarning none 0)).notices = running.notices := by decide +kernel
/-- R134: a placing takes a lid off the count. -/
theorem test_placing :
    (after { running with lidder := { Lidder.start with
        state := .receiving, resume := some .place, present := true
        tin := some { order := 930, tin := 14, cls := .C }, magazines := { a := 0, b := 0, c := 5, d := 0, e := 0 } } }
      (.lidderBeginPlacing false)).lidder.magazines.c = 4 := by decide +kernel
/-- R123: the long profile of a GENTLE tin runs 180 s as GENTLE; the short one 120 s. -/
theorem test_gentle_profile :
    Settings.defaults.spin .long true = { profile := .gentle, seconds := 180 } ∧
    Settings.defaults.spin .short true = { profile := .gentle, seconds := 120 } := by decide +kernel
/-- R124: an imbalance in SPINNING brakes, and the end of braking raises the fault. -/
theorem test_imbalance :
    (afterAll { running with bayOne := { Bay.start with state := .spinning, present := true } }
      [.bayImbalanceTrip .one, .bayBrakeEnd .one]).bayOne.state = .fault := by decide +kernel
/-- R176: the image is invalid until the save has ended well. -/
theorem test_store_save :
    (after running (.storeSave 1 [])).supply.flashValid = false ∧
    (afterAll running [.storeSave 1 [], .storeSaveEnd true]).supply.flashValid = true := by decide +kernel

/-- R87, R107: RETRY_SHOT after a stall with nothing delivered serves the remainder by R38, not the shot. -/
theorem test_retry_of_nothing_delivered :
    (after (asked (withOrder { dosing .faultHeld with
        positioner := running.positioner
        station := { serving .faultHeld with plan := some (plan (entry .partialShot)) } }
      { order .held with
        beforeHold := some .dispensing
        fault := some { station := .dispense, kind := .stall, onTransfer := false, entry := some 0,
                        allowed := [.retryShot] } }) 0x15 1 (b2 930 ++ b1 0))
      (.resolveRetryShot 1 (b2 930 ++ b1 0))).station.cur.map (fun c => (c.phase, c.strokes)) =
      some (.remainder, [5556, 5556, 5555]) := by decide +kernel
/-- R120: after reset, bay 1 emptied once has been EMPTY less long than bay 2. -/
theorem test_first_bay_emptied :
    (running.emptyBay .one).chooseBay .C = some .two := by decide +kernel
/-- R162: a notice goes out with tag 0 and the kind of section 10.5. -/
theorem test_notice_frame :
    (Transmitter.sendingNotice (NoticeBody.started false false).kind noticeTag
      { body := .started false false, count := 1 }).front = some (0xC6, 0, [0, 1, 0, 0]) := by decide +kernel
/-- R168: an absent entry index is 0xFF; a queried canister takes 48 bytes, a preview's summary 21. -/
theorem test_reply_layouts :
    (NoticeBody.stationFault 930 .dispense .plan none 0 .none).entryByte = some 0xFF ∧
    ((ReplyBody.canisterQuery 6 can6 0 .ok .ready false).bytes.map List.length) = some 48 ∧
    ((ReplyBody.preview { automatic := 0, manual := 0, trimmed := 0, clampedUp := 0, total := 0 } 0 0 []).bytes.map
      List.length) = some 21 := by decide +kernel

/-! ## Witnesses: each statement's hypotheses met together, clause by clause -/

theorem witness_StepRunsTheFrontCommand :
    ({ State.reset with pending := [.transmitEnd, .pauseComplete] } : State).pending =
      .transmitEnd :: [.pauseComplete] ∧ State.reset.pending = [] := ⟨rfl, rfl⟩

/-- A controller between the supply warning and START_UP. -/
def warned : State := { running with supply := { running.supply with warned := true } }

theorem witness_WarnedControllerOnlyStartsUp :
    warned.supply.warned = true ∧ ∀ x m k, Instr.transmitEnd ≠ .startUp x m k := 
  ⟨rfl, fun _ _ _ h => by cases h⟩

/-- An ATTENTION notice. -/
def estopNotice : Notice := { body := .estop .running, count := 255 }

/-- A HALTED transfer to bay 1 on which RETRY was taken. -/
def haltedTransfer : Transfer :=
  { source := .dispense, order := 930, tin := 14, lane := none, state := .halted, arrived := false, retried := true,
    sourceWaits := true, tinContext := none, gentle := false }

/-- A line on which a transfer stands. -/
def carrying (s : State) (d : Dest) (t : Transfer) : State := s.setRecord d (some t)

theorem witness_EndOfCommandFrame :
    ¬(running.station.state = .waitCanister ∧ running.startsAllowed = false) ∧
    (({ dosing .waitCanister with line := State.reset.line } : State).station.state = .waitCanister ∧
      ({ dosing .waitCanister with line := State.reset.line } : State).startsAllowed = false) ∧
    State.reset.finish.startsAllowed = false ∧
    ((carrying running (.bay .one) haltedTransfer).finish.startsAllowed = true ∧
      (carrying running (.bay .one) haltedTransfer).record (.bay .one) = some haltedTransfer ∧
      haltedTransfer.state = .halted ∧ haltedTransfer.retried = true) ∧
    ((carrying running (.bay .one) { haltedTransfer with state := .running }).record (.bay .one) =
        some { haltedTransfer with state := .running } ∧
      ({ haltedTransfer with state := .running } : Transfer).state ≠ .halted) ∧
    running.record .outlet = none ∧
    ({ running with notices := List.replicate 47 estopNotice } : State).startsAllowed = true ∧
    ({ running with notices := List.replicate 48 estopNotice } : State).startsAllowed = false := by decide +kernel

/-- A reply that waits. -/
def okReply : Reply :=
  { kind := 0x81, tag := 7, status := .ok, flags := State.reset.lineFlags, body := .none }

/-- A request with its reply. -/
def answeredEntry : InputEntry := { kind := 0x01, tag := 7, payload := [], reply := some okReply }

/-- A line whose link may send. -/
def sending (q : List InputEntry) (n : List Notice) : State :=
  { running with notices := n, link := { running.link with cts := true, queue := q } }

/-- A PROGRESS notice. -/
def modeNotice : Notice := { body := .lineMode .running none, count := 1 }

theorem witness_TransmitterTakesReplyBeforeNotice :
    ((sending [answeredEntry] []).link.tx = .idle ∧ (sending [answeredEntry] []).link.cts = true ∧
      (sending [answeredEntry] []).link.queue.head?.bind (·.reply) = some okReply) ∧
    ((sending [] [modeNotice]).link.queue.head?.bind (·.reply) = none ∧
      (sending [] [modeNotice]).notices = modeNotice :: []) ∧
    (sending [] []).notices = [] ∧ State.reset.link.cts = false := by decide +kernel

theorem witness_NoticeAppendedWithinSixtyFour :
    ((∀ n ∈ List.replicate 63 modeNotice, n.body.sameSubject (.estop .paused) = false) ∧
      (List.replicate 63 modeNotice).length < 64) ∧
    ((∀ n ∈ List.replicate 64 modeNotice, n.body.sameSubject (.estop .paused) = false) ∧
      64 ≤ (List.replicate 64 modeNotice).length ∧
      List.replicate 64 modeNotice = [] ++ modeNotice :: List.replicate 63 modeNotice ∧
      modeNotice.body.cls = .progress) ∧
    ((∀ n ∈ List.replicate 64 estopNotice, n.body.sameSubject (.lineMode .paused none) = false) ∧
      64 ≤ (List.replicate 64 estopNotice).length ∧ (NoticeBody.lineMode .paused none).cls = .progress ∧
      ∀ m ∈ List.replicate 64 estopNotice, m.body.cls ≠ .progress) := by decide +kernel

theorem witness_NoticeMergedBySubject :
    (∀ m ∈ [modeNotice], m.body.sameSubject (.estop .paused) = false) ∧
    estopNotice.body.sameSubject (.estop .paused) = true ∧ (NoticeBody.estop .paused).subject ≠ some .carousel ∧
    (queueNotice [{ body := .canisterUnseated 0 [6] 61, count := 255 }] (.canisterUnseated 0 [7] 62) =
      [{ body := .canisterUnseated 0 [6, 7] 62, count := 255 }]) ∧
    (NoticeBody.lineMode .paused none).cls ≠ .attention ∧
    (NoticeBody.lidsOut 930 .C 5).sameSubject (.lidsOut 931 .C 0) = true ∧
    (NoticeBody.lidsOut 930 .C 5).sameSubject (.lidsOut 930 .D 5) = false ∧
    (NoticeBody.manualStep 930 3 61 1 1 0).sameSubject (.manualStep 930 4 61 1 1 0) = false := by decide +kernel

theorem witness_RequestIsTakenInOrderAndAnsweredOnce :
    (({ running with notices := List.replicate 31 modeNotice } : State).lineFlags.backlog = false ∧
      ({ running with notices := List.replicate 32 modeNotice } : State).lineFlags.backlog = true ∧
      ({ running with notices := List.replicate 47 estopNotice } : State).lineFlags.congested = false ∧
      ({ running with notices := List.replicate 48 estopNotice } : State).lineFlags.congested = true) ∧
    ((∀ e ∈ [answeredEntry], e.reply ≠ none) ∧
      (asked (sending [answeredEntry] []) 0x02 8 []).link.queue =
        [answeredEntry] ++ { kind := 0x02, tag := 8, payload := [], reply := none } :: []) ∧
    ((sending (List.replicate 3 answeredEntry) []).link.queue = List.replicate 3 answeredEntry ∧
      (List.replicate 3 answeredEntry).length < 4) ∧
    ((sending (List.replicate 4 answeredEntry) []).link.queue = List.replicate 4 answeredEntry ∧
      4 ≤ (List.replicate 4 answeredEntry).length) ∧
    ((asked running 0x02 8 []).link.queue = [] ++ { kind := 0x02, tag := 8, payload := [], reply := none } :: [] ∧
      ¬((0x02 : Byte) = 0x01 ∧ (8 : Byte) = 8 ∧ ([] : List Byte) = [])) := by decide +kernel

/-- A move in progress. -/
def moving : State :=
  { running with positioner := { running.positioner with state := .moving, move := some (moveRecord 0 6) } }

theorem witness_LinkRequestsAnswered :
    State.reset.Takes (asked State.reset 0x01 7 []) 0x01 7 [] ∧
    (State.reset.Takes (asked State.reset 0x02 7 []) 0x02 7 [] ∧
      (asked State.reset 0x02 7 []).positioner.move = none) ∧
    (moving.Takes (asked moving 0x02 7 []) 0x02 7 [] ∧
      (asked moving 0x02 7 []).positioner.move = some (moveRecord 0 6)) ∧
    (State.reset.Takes (asked State.reset 0x03 7 [1]) 0x03 7 [1] ∧ catalogue.contains 0x03 = false) ∧
    (([9] : List Byte) ≠ [] ∧ State.reset.Takes (asked State.reset 0x60 7 [9]) 0x60 7 [9] ∧
      ((0x60 : Byte), Instr.storeSave 7 [9]) ∈ [((0x01 : Byte), Instr.ident 7 [9]), (0x60, .storeSave 7 [9])]) := by
  decide +kernel

theorem witness_FramesReceivedAndSent :
    (State.reset.supply.warned = false ∧ State.reset.link.rx = [] ∧ (List.replicate 240 (0xA5 : Byte)).length ≤ 240 ∧
      State.reset.link.queue.length < 4) ∧
    ((sending (List.replicate 4 answeredEntry) []).link.rx = [] ∧
      4 ≤ (sending (List.replicate 4 answeredEntry) []).link.queue.length) ∧
    (1 ≤ 5 ∧ 5 < (frameBytes 0x01 7 []).length) ∧
    (240 < (0xF1 : Byte).toNat ∧ (0xF1 : Byte) ≠ 0xA5) ∧
    ({ sending [answeredEntry] [] with link := { (sending [answeredEntry] []).link with
        tx := .sendingReply okReply } } : State).link.queue = answeredEntry :: [] ∧
    ({ running with link := { running.link with tx := .sendingNotice 0xC4 0 modeNotice } } : State).link.tx =
      .sendingNotice 0xC4 0 modeNotice := by decide +kernel

/-- What ORDER_SUBMIT of section 11.7's order reads. -/
def read930 : Submission :=
  { number := 930, rush := false, holdOpen := false, cls := .C, fill := 2500, vref := 1000, strength := 1000,
    profile := .standard, lines := [line0] }

/-- The plan a build gives, and an empty one when it fails. -/
def built {α : Type} (r : Except α PlanContext) : PlanContext :=
  match r with
  | .ok p => p
  | .error _ => { plan (entry .pending) with entries := [], sum := 0 }

/-- The plan of section 11.7's order on a running line. -/
def plan930 (s : State) : PlanContext :=
  built (s.buildPlan 930 0 { fill := 2500, vref := 1000, strength := 1000 } [line0] (headroom .C 2500) 0)

/-- A running line that waits with section 11.7's ORDER_SUBMIT. -/
def submitting (s : State) : State := asked s 0x10 1 submit930

/-- A build that passes gives its plan. -/
theorem built_eq {α : Type} (r : Except α PlanContext) (h : r.isOk = true) : r = .ok (built r) := by
  cases r with
  | ok p => rfl
  | error i => exact absurd h (by simp [Except.isOk, Except.toBool])

theorem witness_build : (submitting running).buildPlan 930 0 { fill := 2500, vref := 1000, strength := 1000 } [line0]
    (headroom .C 2500) 0 = .ok (plan930 (submitting running)) := built_eq _ (by decide +kernel)

theorem witness_SubmittedOrderIsAdmittedQueued :
    running.Takes (submitting running) 0x10 1 submit930 ∧ submit930.length = 12 + 3 * Bytes.field submit930 11 1 ∧
    readSubmission submit930 true = some read930 ∧ (submitting running).order? 930 = none ∧
    (submitting running).book.orders.length < 32 ∧ (submitting running).book.admission < 4294967295 ∧
    (∀ l ∈ read930.lines, (submitting running).hasAttr (·.hold) l.code = false) ∧
    (submitting running).shownPosition = 0 ∧
    (plan930 (submitting running)).sum ≤ (plan930 (submitting running)).available := by decide +kernel

/-- A line on which code 61 carries HOLD. -/
def heldCode : State :=
  { running with classes := running.classes.set 0 { enabled := true, first := 61, last := 61, hold := true } }

/-- A line whose book has given its last admission sequence. -/
def spent : State := { running with book := { running.book with admission := 4294967295 } }

/-- Section 11.7's order of 655.35 mL per 100 mL into 2,500 mL at strength 4000 on a canister of 200 nL a step. -/
def submitHuge : List Byte :=
  b2 930 ++ b1 0 ++ b1 3 ++ b2 2500 ++ b2 100 ++ b2 4000 ++ b1 0 ++ b1 1 ++ b1 61 ++ b2 65535

/-- What that ORDER_SUBMIT reads. -/
def readHuge : Submission :=
  { read930 with vref := 100, strength := 4000, lines := [{ line0 with amount := 65535 }] }

/-- An order of 125 mL of an unloaded code into a filled tin of class C with brim to spare for 250 mL. -/
def submitOver : List Byte :=
  b2 930 ++ b1 0 ++ b1 3 ++ b2 2500 ++ b2 100 ++ b2 1000 ++ b1 0 ++ b1 1 ++ b1 62 ++ b2 1250

/-- What that ORDER_SUBMIT reads. -/
def readOver : Submission := { read930 with vref := 100, lines := [{ index := 0, code := 62, amount := 1250 }] }

/-- Two results of a build that fail alike. -/
def fails (r : Except Nat PlanContext) (i : Nat) : Bool :=
  match r with
  | .ok _ => false
  | .error j => i == j

theorem witness_SubmitChecksInOrder :
    (running.Takes (asked running 0x10 1 [1]) 0x10 1 [1] ∧ ([1] : List Byte).length < 12) ∧
    (readSubmission (submit930.set 10 9) true = none ∧
      (submit930.set 10 9).length = 12 + 3 * Bytes.field (submit930.set 10 9) 11 1) ∧
    (submitting (withOrder running (order .queued))).order? 930 ≠ none ∧
    ((submitting spent).order? 930 = none ∧ 4294967295 ≤ (submitting spent).book.admission) ∧
    (read930.lines = [] ++ line0 :: [] ∧ (submitting heldCode).hasAttr (·.hold) line0.code = true) ∧
    (readSubmission submitHuge true = some readHuge ∧ fails (running.buildPlan 930 0
      { fill := 2500, vref := 100, strength := 4000 } readHuge.lines (headroom .C 2500) 0) 0 = true) ∧
    (readSubmission submitOver true = some readOver ∧
      (built (running.buildPlan 930 0 { fill := 2500, vref := 100, strength := 1000 } readOver.lines
        (headroom .C 2500) 0)).available <
      (built (running.buildPlan 930 0 { fill := 2500, vref := 100, strength := 1000 } readOver.lines
        (headroom .C 2500) 0)).sum) := by decide +kernel

/-- The PLAN_PREVIEW payload of section 11.7's order, from entry 0. -/
def preview930 : List Byte := submit930 ++ b1 0

theorem witness_QueriesReportAndChangeNothing :
    ((withOrder running (order .queued)).Takes (asked (withOrder running (order .queued)) 0x11 1 (b2 930)) 0x11 1
        (b2 930) ∧ (b2 930).length = 2 ∧
      (asked (withOrder running (order .queued)) 0x11 1 (b2 930)).order? (Bytes.field (b2 930) 0 2) =
        some (order .queued)) ∧
    (running.Takes (asked running 0x17 1 preview930) 0x17 1 preview930 ∧ 12 ≤ preview930.length ∧
      preview930.length = 13 + 3 * Bytes.field preview930 11 1 ∧
      readSubmission preview930 false = some read930 ∧ Bytes.field preview930 (preview930.length - 1) 1 ≤ 47 ∧
      (plan930 running).entries.length = 1) ∧
    (running.Takes (asked running 0x21 1 (b1 6)) 0x21 1 (b1 6) ∧ (b1 6).length = 1 ∧
      Bytes.field (b1 6) 0 1 = (6 : Position).val ∧
      (asked running 0x21 1 (b1 6)).canisters[(6 : Fin 24)].configured = true) ∧
    running.Takes (asked running 0x25 1 []) 0x25 1 [] ∧ running.Takes (asked running 0x51 1 []) 0x51 1 [] ∧
    running.Takes (asked running 0x21 1 [24, 24]) 0x21 1 [24, 24] ∧
    (running.positioner.move = none ∧ moving.positioner.move = some (moveRecord 0 6)) := by decide +kernel

/-- A line with one order that waits with an order request. -/
def asking (o : Order) (kind : Byte) : State := asked (withOrder running o) kind 1 (b2 930)

/-- The order of section 11.7 bound at the intake, tinted or not, on a line that waits with its cancel. -/
def cancelBound (delivered : Nat) (m : LineMode) : State :=
  asked { withOrder running { order .bound with delivered := delivered } with
    line := { mode := m, pendingMode := none, latch := false, chainOpen := false }
    intake := { state := .bound, cls := .C, lidded := false, reason := .lidded, bound := some 930, present := true } }
    0x12 1 (b2 930)

/-- A fault record at a place. -/
def record (station : Dest) (k : FaultKind) (onTransfer : Bool) (i : Option Nat) : FaultRecord :=
  { station := station, kind := k, onTransfer := onTransfer, entry := i,
    allowed := k.actions station onTransfer true }

/-- The order HELD with a fault. -/
def held (f : FaultRecord) : Order := { order .held with fault := some f, beforeHold := some .dispensing }

theorem witness_CancelByWhereTheTinIs :
    ((withOrder running (order .mixing)).Takes (asking (order .mixing) 0x12) 0x12 1 (b2 930) ∧
      (b2 930).length = 2 ∧ Bytes.field (b2 930) 0 2 = 930 ∧
      (asking { order .mixing with pendingEnd := some .scrapped } 0x12).order? 930 =
        some { order .mixing with pendingEnd := some .scrapped }) ∧
    ((asking (order .interrupted) 0x12).order? 930 = some (order .interrupted) ∧
      (order .interrupted).pendingEnd = none ∧
      (order .interrupted).state ∈ [OrderState.queued, .returning, .check, .interrupted]) ∧
    ((asked (dosing .stroking) 0x12 1 (b2 930)).order? 930 = some (order .dispensing) ∧
      (order .dispensing).state ∈ [OrderState.dispensing, .manual] ∧
      (asked (dosing .stroking) 0x12 1 (b2 930)).station.state = .stroking) ∧
    ((dosing .moving).station.state ≠ .stroking ∧ (dosing .moving).station.state ≠ .receiving) ∧
    ((dosing .receiving).station.arrivalWaits = false ∧ (asking (order .bound) 0x12).intake.bound ≠ some 930) ∧
    ({ serving .receiving with arrivalWaits := true } : Station).arrivalWaits = true ∧
    ((cancelBound 0 .running).order? 930 = some (order .bound) ∧ (cancelBound 0 .running).intake.bound = some 930 ∧
      (order .bound).receivedColourant none = false ∧
      (cancelBound 0 .running).startsAllowed = true ∧ (cancelBound 0 .paused).startsAllowed = false ∧
      (cancelBound 0 .running).bindable .C = none ∧
      ({ order .bound with delivered := 1 } : Order).receivedColourant none = true) ∧
    ((asking (held (record .dispense .jam true none)) 0x12).order? 930 = some (held (record .dispense .jam true none)) ∧
      (held (record .dispense .jam true none)).pendingEnd = none ∧ (record .lidder .seat false none).station ≠ .dispense) ∧
    (order .outlet).state ∈ [OrderState.dispensed, .mixing, .lidding, .outlet] := by decide +kernel

/-- A line on which the order's tin stands in lane 2. -/
def inLane (st : LaneState) : State :=
  { withOrder running (order .outlet) with
    lanes := running.lanes.set 2 { state := st, tin := some { order := 930, tin := 14 }, present := true } }

theorem witness_FreedOrderLeavesNothingBehind :
    (inLane .collect).order? 930 = some (order .outlet) ∧
    (inLane .collect).lanes[(0 : Fin 6)].tin.map TinRef.order ≠ some 930 ∧
    ((inLane .collect).lanes[(2 : Fin 6)].tin.map TinRef.order = some 930 ∧
      (inLane .collect).lanes[(2 : Fin 6)].state ∈ [LaneState.collect, .check]) := by decide +kernel

/-- The ORDER_CORRECT payload of one line of code 61. -/
def correct930 : List Byte := b2 930 ++ b1 1 ++ b1 61 ++ b2 10

theorem witness_ReturnSlotRequestsAccepted :
    ((withOrder running (order .check)).Takes (asking (order .check) 0x14) 0x14 1 (b2 930) ∧
      (asking (order .check) 0x14).order? 930 = some (order .check) ∧
      (asking (order .check) 0x14).book.slot = none) ∧
    ((asking (order .interrupted) 0x18).order? 930 = some (order .interrupted) ∧
      (order .interrupted).flags.amountUnknown = false ∧ (order .interrupted).flags.lidded = false) ∧
    ((withOrder running (order .check)).Takes (asked (withOrder running (order .check)) 0x13 1 correct930) 0x13 1
        correct930 ∧
      correct930.length = 3 + 3 * Bytes.field correct930 2 1 ∧
      (∀ l ∈ linesAt correct930 3 (Bytes.field correct930 2 1), 1 ≤ l.code ∧ l.code ≤ 250) ∧
      Bytes.field correct930 0 2 = 930 ∧ (order .check).rounds.length < 4) := by decide +kernel

/-- The dry plan of that correction. -/
def correctionPlan : Except (Status × ReplyBody) PlanContext :=
  (asked (withOrder running (order .check)) 0x13 1 correct930).dryPlan 930 1 { fill := 1, vref := 1, strength := 1000 }
    (mergeLines (linesAt correct930 3 (Bytes.field correct930 2 1))) (headroom .C 2500 - 0)

/-- The dry plan of that correction passes. -/
theorem witness_correction_plan : correctionPlan = .ok (built correctionPlan) :=
  built_eq correctionPlan (by decide +kernel)

/-- A serving line whose order is HELD. -/
def faulted (st : StationState) (f : FaultRecord) : State := withOrder (dosing st) (held f)

theorem witness_FaultRecordHoldsAndReleasesTheOrder :
    ((dosing .stroking).order? 930 = some (order .dispensing) ∧
      ((dosing .stroking).book.orders.map Order.number).Nodup ∧ (order .dispensing).fault = none) ∧
    ((faulted .faultHeld (record .dispense .stall false (some 0))).order? 930 =
        some (held (record .dispense .stall false (some 0))) ∧
      (held (record .dispense .stall false (some 0))).beforeHold = some .dispensing) ∧
    ((dosing .stroking).remakeStored (order .dispensing) = true ∧ running.remakeStored (order .dispensing) = false) ∧
    ((record .dispense .stall false (some 0)).station = .dispense ∧
      (faulted .faultHeld (record .dispense .stall false (some 0))).lamp .dispense = .fast ∧
      (faulted .faultHeld (record .outlet .jam true none)).lamp .outlet = .fast) ∧
    ((∀ o ∈ (inLane .check).book.orders, o.fault = none) ∧ (inLane .check).lanes[(2 : Fin 6)].state = .check ∧
      (inLane .check).lamp .outlet = .slow ∧ (inLane .collect).lamp .outlet = .steady ∧ running.lamp .outlet = .off ∧
      (inLane .check).station.state = .idle ∧ (inLane .check).lidder.state = .idle ∧
      (inLane .check).bayTwo.state = .empty ∧ (inLane .check).intake.state = .empty) := by
  decide +kernel

/-- A RESOLVE payload for the order. -/
def resolve (a : Action) : List Byte := b2 930 ++ b1 a.code

/-- The line that waits with a RESOLVE. -/
def resolving (s : State) (a : Action) : State := asked s 0x15 1 (resolve a)

theorem witness_ResolveChecksInOrder :
    (running.Takes (asked running 0x15 1 []) 0x15 1 [] ∧ ([] : List Byte).length ≠ 3) ∧
    Action.ofCode (Bytes.field (b2 930 ++ b1 10) 2 1) = none ∧
    (running.Takes (resolving running .accept) 0x15 1 (resolve .accept) ∧
      (resolving running .accept).order? (Bytes.field (resolve .accept) 0 2) = none) ∧
    ((resolving (dosing .stroking) .release).order? (Bytes.field (resolve .release) 0 2) = some (order .dispensing) ∧
      (order .dispensing).fault = none ∧ (order .dispensing).state ≠ .interrupted) ∧
    ((resolving (faulted .faultHeld (record .dispense .stall false (some 0))) .accept).order? 930 =
        some (held (record .dispense .stall false (some 0))) ∧
      (record .dispense .stall false (some 0)).allowed.contains .accept = false) := by decide +kernel

/-- A RESOLVE that its order and record allow, taken by a line. -/
abbrev Allowed (s : State) (a : Action) (o : Order) (f : FaultRecord) : Prop :=
  s.Takes (resolving s a) 0x15 1 (resolve a) ∧ (resolving s a).Resolves (resolve a) a o f

/-- The fault of a shot, allowed for an action. -/
def shotFault (k : FaultKind) (a : Action) : Bool :=
  decide (Allowed (faulted .faultHeld (record .dispense k false (some 0))) a
    (held (record .dispense k false (some 0))) (record .dispense k false (some 0)))

/-- A serving line whose entry is PARTIAL with nothing delivered, HELD by a stall in its first stroke. -/
def stalled : State :=
  { faulted .faultHeld (record .dispense .stall false (some 0)) with
    station := { serving .faultHeld with plan := some (plan (entry .partialShot)) } }

theorem witness_ResolveOfAShot :
    (Allowed stalled .retryShot (held (record .dispense .stall false (some 0))) (record .dispense .stall false (some 0)) ∧
      stalled.station.order = some 930 ∧ stalled.curIndex = some 0 ∧
      stalled.station.plan = some (plan (entry .partialShot)) ∧
      (plan (entry .partialShot)).entries[0]? = some (entry .partialShot) ∧ (entry .partialShot).pos = some 6 ∧
      stalled.canisters[(6 : Fin 24)].mark = (entry .partialShot).mark ∧
      (entry .partialShot).delivered < (entry .partialShot).steps + (entry .partialShot).topup) ∧
    shotFault .under .retryShot ∧ shotFault .stall .retryShot ∧ shotFault .unseated .skipShot ∧
    shotFault .sensor .accept ∧ shotFault .over .accept := by decide +kernel

/-- A line on which the order is HELD by a fault at a place, with a transfer in flight to it. -/
def jammed (d : Dest) (k : FaultKind) (t : Transfer) : State :=
  carrying (withOrder running (held (record d k true none))) d t

/-- The fault of a place, allowed for an action. -/
def placeFault (d : Dest) (k : FaultKind) (a : Action) : Bool :=
  decide (Allowed (withOrder running (held (record d k false none))) a (held (record d k false none))
    (record d k false none))

/-- The fault of a transfer, allowed for an action. -/
def transferFault (d : Dest) (k : FaultKind) (t : Transfer) (a : Action) : Bool :=
  decide (Allowed (jammed d k t) a (held (record d k true none)) (record d k true none) ∧
    (resolving (jammed d k t) a).record d = some t)

/-- The order of section 11.7 HELD by an e-stop that cut off a stroke after its cancel. -/
def cancelledHeld : Order := { held (record .dispense .estop false (some 0)) with pendingEnd := some .cancelled }

/-- The line of that order, its station HALTED. -/
def cancelledLine : State :=
  { withOrder running cancelledHeld with station := { serving .halted with resume := some .serve } }

/-- R15: RETRY and REMAKE for a cancelled order only clear the station, and its lift frees the order. -/
theorem test_nothing_starts_on_a_cancelled_order :
    ([after (resolving cancelledLine .remake) (.resolveRemake 1 (resolve .remake)),
      after (resolving cancelledLine .retry) (.resolveRetry 1 (resolve .retry))].map fun t =>
        (t.station.state, (t.order? 930).map Order.state,
          ((after t .dispensePresenceFall).order? 930).map Order.number)) =
      [(.clearing, some .dispensing, none), (.clearing, some .dispensing, none)] := by decide +kernel

theorem witness_ResolveRetryTakesTheOperationUp :
    (Allowed cancelledLine .retry cancelledHeld (record .dispense .estop false (some 0)) ∧
      cancelledHeld.pendingEnd ≠ none) ∧
    shotFault .lost .retry ∧
    (placeFault .dispense .estop .retry ∧ (held (record .dispense .estop false none)).pendingEnd = none ∧
      (resolving ({ withOrder running (held (record .dispense .estop false none)) with
        station := { serving .halted with resume := some .serve } }) .retry).station.resume = some .serve) ∧
    ({ serving .halted with resume := some .verdict } : Station).resume = some .verdict ∧
    (stalled.entry? 0 = some (entry .partialShot) ∧ (entry .partialShot).pos = some 6 ∧
      stalled.canisters[(6 : Fin 24)].mark = (entry .partialShot).mark) ∧
    placeFault (.bay .two) .imbalance .retry ∧ placeFault .lidder .seat .retry ∧ placeFault .lidder .estop .retry ∧
    transferFault (.bay .one) .estop { haltedTransfer with retried := false } .retry ∧
    transferFault .lidder .estop { haltedTransfer with retried := false, arrived := true } .retry := by decide +kernel

theorem witness_ResolvePassesOrGivesUpTheTin :
    transferFault .lidder .jam { haltedTransfer with state := .jammed } .confirm ∧ placeFault .lidder .seat .pass ∧
    placeFault .dispense .lost .scrap ∧ placeFault (.bay .one) .clamp .scrap ∧ placeFault .lidder .seat .scrap ∧
    transferFault .outlet .jam { haltedTransfer with state := .jammed, lane := some 2 } .scrap ∧
    placeFault .dispense .plan .cancel ∧
    (shotFault .over .remake ∧ (held (record .dispense .over false (some 0))).pendingEnd = none) ∧
    (Allowed cancelledLine .remake cancelledHeld (record .dispense .estop false (some 0)) ∧
      cancelledHeld.pendingEnd ≠ none) ∧
    (placeFault .dispense .plan .release ∧ (held (record .dispense .plan false none)).state ≠ .interrupted) ∧
    ((resolve .release).length = 3 ∧ Action.ofCode (Bytes.field (resolve .release) 2 1) = some .release ∧
      (resolving (withOrder running (order .interrupted)) .release).order? 930 =
        some (order .interrupted)) := by decide +kernel

/-- A MANUAL_DONE payload with a host mass at its bound, or a skip. -/
def manual (flags : Nat) : List Byte := b2 930 ++ b1 0 ++ b1 flags ++ Bytes.ofNat 4 30000000

/-- The line that waits with a MANUAL_DONE in AWAIT_MANUAL. -/
def manualAsked (flags : Nat) : State := asked (dosing .awaitManual) 0x16 1 (manual flags)

/-- The hand's entry of section 5.4's mass, with a host mass and no reading before it. -/
def handShot : CurrentEntry := { shot with phase := .manual, start := none, hostMass := some 40426 }

/-- The station waiting for the hand's mass to be judged. -/
def judging (c : CurrentEntry) : State :=
  { dosing .settling with station := { serving .settling with cur := some c } }

theorem witness_ManualStepAnswered :
    ((judging handShot).current? = some (handShot, entry .active) ∧ handShot.phase = .manual ∧
      handShot.target = some { mass := 41251, tol := 825 } ∧ increment handShot.start none = none ∧
      41251 ≤ 40426 + 825 ∧ 40425 + 825 < 41251 ∧ 41251 + 825 < 42077) ∧
    ({ handShot with target := none } : CurrentEntry).target = none ∧
    (judging handShot).densityOf (entry .active).code = some 1320 ∧
    ((dosing .awaitManual).Takes (manualAsked 2) 0x16 1 (manual 2) ∧ (manual 2).length = 8 ∧
      (manualAsked 2).order? (Bytes.field (manual 2) 0 2) = some (order .dispensing) ∧
      (manualAsked 2).station.state = .awaitManual ∧
      (manualAsked 2).station.order = some (Bytes.field (manual 2) 0 2) ∧ (manualAsked 2).curIndex = some 0 ∧
      Bytes.field (manual 2) 2 1 = 0 ∧ (Bytes.field (manual 2) 3 1).testBit 0 = false ∧
      ((Bytes.field (manual 2) 3 1).testBit 1 = true → Bytes.field (manual 2) 4 4 ≤ 30000000)) ∧
    (Bytes.field (manual 1) 3 1).testBit 0 = true ∧
    (Bytes.field (b2 930 ++ b1 0 ++ b1 2 ++ Bytes.ofNat 4 30000001) 4 4 = 30000001 ∧
      (Bytes.field (b2 930 ++ b1 0 ++ b1 2 ++ Bytes.ofNat 4 30000001) 3 1).testBit 1 = true) ∧
    (asked running 0x16 1 (manual 2)).order? (Bytes.field (manual 2) 0 2) = none ∧
    ((asked (dosing .settling) 0x16 1 (manual 1)).order? (Bytes.field (manual 1) 0 2) ≠ none ∧
      (asked (dosing .settling) 0x16 1 (manual 1)).station.state ≠ .awaitManual) := by decide +kernel

/-! ## Witnesses: the tables and the line mode unit -/

/-- What CANISTER_SET of section 2.3's canister reads. -/
def fields6 : CanisterFields :=
  { pos := 6, code := 61, role := .primary, d := 1875, rho := 1320, c := 8000, m := 40, capacity := 500,
    floor := 5000000, low := 10, level := 60000000 }

/-- The shot of section 5.4 waits on an unconfirmed canister. -/
def waiting : State :=
  { dosing .waitCanister with
    canisters := State.reset.canisters.set 6 { can6 with confirmed := false }
    station := { serving .waitCanister with finding := some .unconfirmed, plan := some (plan (entry .done)) } }

theorem witness_CanisterSetLeavesTheRecord :
    (State.reset.Takes (asked State.reset 0x20 1 set6) 0x20 1 set6 ∧ set6.length = 31 ∧
      readCanister set6 = some fields6 ∧ (asked State.reset 0x20 1 set6).setRefused fields6 = false ∧
      (asked State.reset 0x20 1 set6).roleTaken fields6 = false ∧
      (asked State.reset 0x20 1 set6).station.state ≠ .waitCanister) ∧
    ((asked waiting 0x20 1 set6).setRefused fields6 = false ∧ (asked waiting 0x20 1 set6).roleTaken fields6 = false ∧
      (asked waiting 0x20 1 set6).station.state = .waitCanister ∧
      (asked waiting 0x20 1 set6).current? = some (shot, entry .done) ∧ (entry .done).pos = some fields6.pos ∧
      can6.finding (entry .done).code (shot.strokes.getD shot.ended 0) ≠
        (asked waiting 0x20 1 set6).canisters[(6 : Fin 24)].finding (entry .done).code
          (shot.strokes.getD shot.ended 0)) := by decide +kernel

/-- A CANISTER_REFILL of the largest addition at the last position. -/
def refill23 : List Byte := b1 23 ++ Bytes.ofNat 4 5000000

/-- A line with a canister at the last position. -/
def loaded23 : State := { running with canisters := running.canisters.set 23 can6 }

/-- A CANISTER_REFILL of 1 µL at position 6. -/
def refill6 : List Byte := b1 6 ++ Bytes.ofNat 4 1

/-- The line of `waiting` with its canister not seated, which a refill does not change. -/
def unseated : State := { waiting with canisters := State.reset.canisters.set 6 { can6 with seated := false } }

theorem witness_CanisterRefillAndClear :
    (loaded23.Takes (asked loaded23 0x22 1 refill23) 0x22 1 refill23 ∧ refill23.length = 5 ∧
      Bytes.field refill23 0 1 = (23 : Position).val ∧ 1 ≤ Bytes.field refill23 1 4 ∧
      Bytes.field refill23 1 4 ≤ 5000000 ∧ (asked loaded23 0x22 1 refill23).canisters[(23 : Fin 24)].code ≠ 0 ∧
      (asked loaded23 0x22 1 refill23).station.state ≠ .waitCanister) ∧
    (loaded23.Takes (asked loaded23 0x23 1 (b1 23)) 0x23 1 (b1 23) ∧ (b1 23).length = 1 ∧
      Bytes.field (b1 23) 0 1 = (23 : Position).val ∧ (asked loaded23 0x23 1 (b1 23)).inUse 23 = false) ∧
    (waiting.Takes (asked waiting 0x22 1 refill6) 0x22 1 refill6 ∧ Bytes.field refill6 0 1 = (6 : Position).val ∧
      Bytes.field refill6 1 4 = 1 ∧ (asked waiting 0x22 1 refill6).station.state = .waitCanister ∧
      (asked waiting 0x22 1 refill6).current? = some (shot, entry .done) ∧ (entry .done).pos = some 6 ∧
      (({ can6 with confirmed := false } : Canister).refilled 1).finding 61 5556 ≠
        ({ can6 with confirmed := false } : Canister).finding 61 5556) ∧
    (unseated.Takes (asked unseated 0x22 1 refill6) 0x22 1 refill6 ∧
      (asked unseated 0x22 1 refill6).station.state = .waitCanister ∧
      (({ can6 with seated := false } : Canister).refilled 1).finding 61 5556 =
        ({ can6 with seated := false } : Canister).finding 61 5556) ∧
    (asked loaded23 0x23 1 (b1 0)).inUse 0 = false ∧
    (asked loaded23 0x23 1 (b1 0)).canisters[(0 : Fin 24)].code = 0 := by decide +kernel

theorem witness_ClassLidsAndSettingsTaken :
    (running.Takes (asked running 0x24 1 [5, 1, 1, 250, 15]) 0x24 1 [5, 1, 1, 250, 15] ∧
      Bytes.field [5, 1, 1, 250, 15] 0 1 = (5 : Fin 6).val ∧ 1 ≤ Bytes.field [5, 1, 1, 250, 15] 2 1 ∧
      Bytes.field [5, 1, 1, 250, 15] 2 1 ≤ Bytes.field [5, 1, 1, 250, 15] 3 1 ∧
      Bytes.field [5, 1, 1, 250, 15] 3 1 ≤ 250 ∧ Bytes.field [5, 1, 1, 250, 15] 4 1 < 16) ∧
    (running.Takes (asked running 0x30 1 [5, 81]) 0x30 1 [5, 81] ∧ Bytes.field [5, 81] 0 1 = TinClass.E.code) ∧
    (running.Takes (asked running 0x50 1 (List.replicate 14 0)) 0x50 1 (List.replicate 14 0) ∧
      (List.replicate 14 (0 : Byte)).length = 14) ∧
    (running.Takes (asked running 0x50 1 []) 0x50 1 [] ∧ ([] : List Byte).length ≠ 14) := by decide +kernel

/-- A line whose save is in flight. -/
def saving : State := { running with supply := { running.supply with saving := some running.tables } }

theorem witness_StoreSaveAndItsEnd :
    (running.Takes (asked running 0x60 1 []) 0x60 1 [] ∧ (asked running 0x60 1 []).supply.saving = none) ∧
    (saving.Takes (asked saving 0x60 1 []) 0x60 1 [] ∧ (asked saving 0x60 1 []).supply.saving ≠ none) ∧
    (saving.supply.warned = false ∧ saving.supply.saving = some running.tables) := by decide +kernel

/-- A line in a mode with a pending request. -/
def inMode (m : LineMode) (p : Option PendingMode) : State :=
  { State.reset with line := { mode := m, pendingMode := p, latch := m == .stopped, chainOpen := false } }

/-- That line with a request that waits. -/
def modeAsked (m : LineMode) (p : Option PendingMode) (kind : Byte) : State := asked (inMode m p) kind 1 []

theorem witness_LineRunByMode :
    ((inMode .paused none).Takes (modeAsked .paused none 0x40) 0x40 1 [] ∧
      (modeAsked .paused none 0x40).line.mode = .paused ∧ (modeAsked .paused none 0x40).line.pendingMode = none ∧
      (modeAsked .paused none 0x40).positioner.state ∈ [PositionerState.unhomed, .lost, .failed] ∧
      (modeAsked .paused none 0x40).positioner.onMark = false) ∧
    (({ asked { inMode .paused none with positioner := running.positioner } 0x40 1 [] with notices := [] }
        : State).positioner.state = .homed) ∧
    (modeAsked .paused (some .run) 0x40).line.pendingMode = some .run ∧
    (modeAsked .running (some .pause) 0x40).line.pendingMode = some .pause ∧
    (modeAsked .running none 0x40).line.pendingMode = none ∧ (modeAsked .service none 0x40).line.mode = .service ∧
    (modeAsked .stopped none 0x40).line.mode = .stopped := by decide +kernel

theorem witness_LinePauseAndLineService :
    ((dosing .moving).Takes (asked (dosing .moving) 0x41 1 []) 0x41 1 [] ∧
      (asked (dosing .moving) 0x41 1 []).line.mode = .running ∧
      (asked (dosing .moving) 0x41 1 []).line.pendingMode = none ∧
      (asked (dosing .moving) 0x41 1 []).station.state ≠ .waitCanister ∧
      (asked (dosing .moving) 0x41 1 []).allAtRest = false) ∧
    ((inMode .running none).Takes (modeAsked .running none 0x41) 0x41 1 [] ∧
      (modeAsked .running none 0x41).allAtRest = true) ∧
    (modeAsked .running (some .pause) 0x41).line.pendingMode = some .pause ∧
    (modeAsked .paused (some .run) 0x41).line.mode = .paused ∧ (modeAsked .stopped none 0x41).line.mode = .stopped ∧
    ((inMode .service none).Takes (modeAsked .service none 0x41) 0x41 1 [] ∧
      (modeAsked .service none 0x41).line.mode = .service ∧
      (modeAsked .service none 0x41).positioner.state ∈ [PositionerState.unhomed, .lost, .failed] ∧
      (modeAsked .service none 0x41).positioner.onMark = false ∧
      (modeAsked .service none 0x41).station.awaitHoming = false) ∧
    ((inMode .running (some .pause)).supply.warned = false ∧ (inMode .running (some .pause)).allAtRest = true) ∧
    ({ dosing .moving with line := (inMode .running (some .pause)).line } : State).allAtRest = false ∧
    ((inMode .paused none).Takes (modeAsked .paused none 0x42) 0x42 1 [] ∧
      (modeAsked .paused none 0x42).line.mode = .paused ∧ (modeAsked .paused none 0x42).line.pendingMode = none ∧
      (modeAsked .paused none 0x42).positioner.state ≠ .homing ∧
      (modeAsked .paused none 0x42).positioner.state ≠ .moving ∧
      (modeAsked .paused none 0x42).station.entriesPending = false) ∧
    (modeAsked .running none 0x42).line.mode ≠ .paused := by decide +kernel

theorem witness_StopResetOnlyInStoppedWithTheChainClosed :
    ((inMode .stopped none).Takes (modeAsked .stopped none 0x43) 0x43 1 [] ∧
      (modeAsked .stopped none 0x43).line.mode = .stopped ∧ (modeAsked .stopped none 0x43).line.chainOpen = false) ∧
    (modeAsked .paused none 0x43).line.mode ≠ .stopped := by decide +kernel

/-- A PAUSED line with the order of section 11.7 on the station. -/
def pausedDosing : State := { dosing .faultHeld with line := (inMode .paused none).line }

theorem witness_ClearLineEmptiesTheLine :
    (pausedDosing.Takes (asked pausedDosing 0x44 1 []) 0x44 1 [] ∧
      (asked pausedDosing 0x44 1 []).line.mode ∈ [LineMode.paused, .stopped] ∧
      ((asked pausedDosing 0x44 1 []).book.orders.map Order.number).Nodup ∧
      order .dispensing ∈ (asked pausedDosing 0x44 1 []).book.orders ∧
      (asked pausedDosing 0x44 1 []).onLine (order .dispensing) = true ∧ (order .dispensing).pendingEnd = none ∧
      (order .dispensing).receivedColourant ((asked pausedDosing 0x44 1 []).keptPlan (order .dispensing)) = false) ∧
    (order .dispensing).receivedColourant
      (some (plan { entry .partialShot with delivered := 5556 })) = true ∧
    pausedDosing.onLine (order .check) = false ∧
    ((inLane .reserved).lanes[(2 : Fin 6)].state = .reserved ∧ (inLane .check).lanes[(2 : Fin 6)].state ≠ .reserved ∧
      (inLane .check).onLine (order .outlet) = false) ∧
    (modeAsked .service none 0x44).line.mode ∈ [LineMode.running, .service] := by decide +kernel

/-! ## Witnesses: intake and conveyor -/

/-- A running line with the order of section 11.7 QUEUED. -/
def queued : State := withOrder running { order .queued with tin := none }

/-- A running line with that order in the return slot. -/
def slotted : State :=
  { queued with book := { queued.book with slot := some 930, orders := [{ order .returning with tin := none }] } }

theorem witness_BindingTakesAndBindsTheFirstMatchingOrder :
    (slotted.book.slot = some 930 ∧ slotted.order? 930 = some { order .returning with tin := none } ∧
      (order .returning).cls = .C ∧ slotted.bindable .C = some ({ order .returning with tin := none }, true)) ∧
    queued.bindable .C = some ({ order .queued with tin := none }, false) ∧ queued.bindable .A = none ∧
    (queued.order? 930 = some { order .queued with tin := none } ∧ (order .queued).state ≠ .bound ∧
      queued.book.orders.length ≤ 32) := by decide +kernel

/-- A running line with a tin at the intake in a state. -/
def atIntake (s : State) (st : IntakeState) (why : RefusedReason) : State :=
  { s with intake := { state := st, cls := .C, lidded := false, reason := why, bound := some 930, present := true } }

/-- The order of section 11.7 bound at the intake. -/
def boundTin (fromSlot : Bool) : State :=
  atIntake (withOrder running { order .bound with fromSlot := fromSlot }) .bound .noOrderForTin

theorem witness_IntakeTakesAndLosesATin :
    (running.supply.warned = false ∧ running.intake.state ≠ .bound) ∧
    State.reset.startsAllowed = false ∧ (running.startsAllowed = true ∧ running.bindable .E = none) ∧
    (queued.startsAllowed = true ∧ queued.bindable .C = some ({ order .queued with tin := none }, false)) ∧
    ((atIntake queued .waiting .lidded).intake.state = .waiting ∧
      (atIntake queued .waiting .lidded).bindable .C = some ({ order .queued with tin := none }, false)) ∧
    ((atIntake queued .refused .noOrderForTin).intake.reason = .noOrderForTin ∧
      (atIntake queued .refused .noOrderForTin).startsAllowed = true) ∧
    (atIntake running .waiting .lidded).bindable .C = none ∧
    (atIntake running .refused .noOrderForTin).bindable .C = none ∧
    ((boundTin false).supply.warned = false ∧ (boundTin false).intake.state = .bound ∧
      (boundTin false).intake.bound = some 930 ∧
      (boundTin false).order? 930 = some { order .bound with fromSlot := false } ∧
      ({ order .bound with fromSlot := false } : Order).state = .bound) ∧
    (boundTin true).book.slot = none := by decide +kernel

/-- A tin on a bay, a lidder or a lane. -/
def tinRef : TinRef := { order := 930, tin := 14 }

/-- The station COMPLETE with its request for a bay. -/
def complete : State :=
  { withOrder running (order .dispensed) with
    station := serving .complete, conveyor := { Conveyor.start with stationRequest := true } }

/-- The lidder with its tin in a state. -/
def lidderAt (st : LidderState) : State :=
  { withOrder running (order .lidding) with
    lidder := { Lidder.start with
      state := st, tin := some { order := 930, tin := 14, cls := .C }, present := true
      magazines := { a := 0, b := 0, c := 1, d := 0, e := 0 } }
    conveyor := { Conveyor.start with outletRequest := true } }

/-- A bay with its tin in a state. -/
def bayAt (st : BayState) (closed mixed : Bool) (why : Option BrakeCause) : State :=
  { withOrder running (order .mixing) with
    bayTwo := { Bay.start with
      state := st, tin := some tinRef, present := true, clampClosed := closed, mixDone := mixed, cause := why } }

/-- An IDLE lidder with one requester. -/
def requested (s : State) (r : LidSource) : State := { s with lidder := { Lidder.start with requesters := [r] } }

theorem witness_TransfersStart :
    ((boundTin false).startsAllowed = true ∧ (boundTin false).intake.state = .bound ∧
      (boundTin false).conveyor.toDispense = none ∧ (boundTin false).station.state = .idle ∧
      (boundTin false).station.present = false ∧
      ({ boundTin false with conveyor := { Conveyor.start with intakeRequest := true } }
        : State).conveyor.intakeRequest = true ∧ ({ order .bound with fromSlot := false } : Order).tin = some 14) ∧
    (complete.supply.warned = false ∧ complete.startsAllowed = true ∧ complete.station.state = .complete ∧
      complete.conveyor.stationRequest = true ∧ complete.station.order = some 930 ∧
      complete.station.tin = some tinC ∧ complete.order? 930 = some (order .dispensed) ∧
      complete.chooseBay .C = some .one) ∧
    ((lidderAt .dischargeWait).startsAllowed = true ∧ (lidderAt .dischargeWait).lidder.state = .dischargeWait ∧
      (lidderAt .dischargeWait).conveyor.outletRequest = true ∧
      (lidderAt .dischargeWait).conveyor.toOutlet = none ∧
      (lidderAt .dischargeWait).lidder.tin = some { order := 930, tin := 14, cls := .C } ∧
      (lidderAt .dischargeWait).lanes[(0 : Fin 6)].state = .empty ∧
      (lidderAt .dischargeWait).lanes[(0 : Fin 6)].present = false ∧
      ∀ l : Lane, l < 0 → (lidderAt .dischargeWait).lanes[l].state ≠ .empty) ∧
    ((requested (bayAt .ready false true none) (.bay .two)).lidder.state = .idle ∧
      (requested (bayAt .ready false true none) (.bay .two)).lidder.present = false ∧
      (requested (bayAt .ready false true none) (.bay .two)).conveyor.toLidder = none ∧
      (requested (bayAt .ready false true none) (.bay .two)).startsAllowed = true ∧
      (requested (bayAt .ready false true none) (.bay .two)).lidder.requesters = .bay .two :: [] ∧
      ((requested (bayAt .ready false true none) (.bay .two)).bay .two).tin = some tinRef) ∧
    ((requested complete .dispense).lidder.requesters = .dispense :: [] ∧
      (requested complete .dispense).startsAllowed = true ∧ (requested complete .dispense).station.order = some 930 ∧
      (requested complete .dispense).station.tin = some tinC) := by decide +kernel

/-- A RUNNING transfer. -/
def runningTransfer : Transfer := { haltedTransfer with state := .running, retried := false, lane := some 5 }

theorem witness_TransfersEnd :
    (running.supply.warned = false ∧
      (carrying running (.bay .two) runningTransfer).record (.bay .two) = some runningTransfer ∧
      runningTransfer.state = .running) ∧
    ((carrying running (.bay .two) haltedTransfer).record (.bay .two) = some haltedTransfer ∧
      haltedTransfer.state ≠ .running) ∧
    (carrying running .dispense runningTransfer).record .dispense = some runningTransfer ∧
    (carrying running .lidder runningTransfer).record .lidder = some runningTransfer ∧
    ((carrying running .outlet runningTransfer).record .outlet = some runningTransfer ∧
      runningTransfer.lane = some 5) := by decide +kernel

theorem witness_ArrivalsAreTakenByTheirStations :
    ((dosing .receiving).order? (dosing .receiving).served = some (order .dispensing) ∧
      (order .dispensing).pendingEnd = none ∧ (dosing .receiving).station.present = true ∧
      (dosing .receiving).station.lid = false ∧ (order .dispensing).route.dispense = true) ∧
    ({ order .dispensing with pendingEnd := some .scrapped } : Order).pendingEnd ≠ none ∧
    ({ serving .receiving with present := false } : Station).present = false ∧
    ({ serving .receiving with lid := true } : Station).lid = true ∧
    (dosing .receiving).order? haltedTransfer.order = some (order .dispensing) ∧
    ((order .lidding).route.lid = true ∧ (order .lidding).holdOpen = false) ∧
    ¬(({ order .lidding with holdOpen := true } : Order).lidOnly = true) := by decide +kernel

/-- Both bays EMPTY, bay 2 the longer. -/
def bothFree : State := { running with bayOne := { Bay.start with emptySince := 3 } }

theorem witness_BayChosenIsEmptyTheLonger :
    bothFree.chooseBay .C = some .two ∧ bothFree.chooseBay .E = some .one ∧ running.chooseBay .A = some .one ∧
    ({ running with bayOne := { Bay.start with present := true } } : State).chooseBay .D = none ∧
    (complete.station.order = some 930 ∧ complete.order? 930 = some (order .dispensed) ∧
      ({ complete with bayOne := { Bay.start with present := true }, bayTwo := { Bay.start with state := .ready } }
        : State).chooseBay .C = none) := by decide +kernel

/-! ## Witness: what the opening of the chain stops -/

theorem witness_ChainOpeningStopsTheLine :
    (running.supply.warned = false ∧ running.line.mode ≠ .stopped ∧ running.station.state ≠ .stroking) ∧
    ((inMode .stopped none).supply.warned = false ∧ (inMode .stopped none).line.mode = .stopped) ∧
    ((dosing .moving).station.state = .moving ∧ (dosing .waitCanister).station.state = .waitCanister ∧
      (dosing .awaitManual).station.state = .awaitManual ∧ (dosing .taring).station.state = .taring) ∧
    ((dosing .stroking).current? = some (shot, entry .active) ∧ (dosing .stroking).station.state = .stroking) ∧
    ((dosing .settling).current? = some (shot, entry .active) ∧ (dosing .settling).station.settleFor ≠ .phaseStart ∧
      ({ serving .settling with settleFor := .phaseStart } : Station).settleFor = .phaseStart) ∧
    (running.station.state = .idle ∧ running.bayOne.state = .empty ∧ running.lidder.state = .idle) ∧
    ((carrying running (.bay .two) runningTransfer).record (.bay .two) = some runningTransfer ∧
      runningTransfer.state = .running ∧ haltedTransfer.state ≠ .running ∧
      (carrying running .lidder haltedTransfer).record .lidder = some haltedTransfer) ∧
    (((bayAt .clamping false false none).bay .two).tin = some tinRef ∧
      ((bayAt .clamping false false none).bay .two).state = .clamping ∧
      ((bayAt .braking true false (some .clamp)).bay .two).state = .braking) ∧
    ((lidderAt .placing).lidder.tin = some { order := 930, tin := 14, cls := .C } ∧
      (lidderAt .checking).lidder.state = .checking) := by decide +kernel

/-- R92: a stroke cut off by the chain at 5000 steps is debited, its entry PARTIAL, and RETRY serves its remainder. -/
theorem test_chain_in_a_stroke :
    (after (dosing .stroking) (.estopChainOpen (some 5000) 0)).canisters[(6 : Fin 24)].level = 50625000 ∧
    ((after (dosing .stroking) (.estopChainOpen (some 5000) 0)).station.plan.map fun p =>
      p.entries.map fun e => (e.state, e.delivered)) = some [(.partialShot, 5000)] ∧
    ((after (dosing .stroking) (.estopChainOpen (some 5000) 0)).order? 930).map Order.fault =
      some (some { station := .dispense, kind := .estop, onTransfer := false, entry := some 0,
                   allowed := [.retry, .scrap, .remake] }) := by decide +kernel

/-- R127: a spin cut off by the chain holds its brake only until the yoke stands. -/
theorem test_halted_bay_brake :
    (after (bayAt .spinning true false none) (.estopChainOpen none 0)).bayTwo.brake = true ∧
    (afterAll (bayAt .spinning true false none) [.estopChainOpen none 0, .bayBrakeEnd .two]).bayTwo.brake = false := by
  decide +kernel

/-- R129, R130: a start after a warning that cut a spin finds the brake held in CLEARING. -/
theorem test_started_bay_brake :
    ((bayAt .spinning true false none).bayTwo.warned.started 1).brake = true ∧
    ((bayAt .spinning true false none).bayTwo.warned.started 1).state = .clearing ∧
    ({ (bayAt .spinning true false none).bayTwo.warned with present := false }.started 1).brake = false := by
  decide +kernel

/-- R77: an entry to be served after RETRY's homing waits while starts are withheld. -/
theorem test_homed_under_a_pause :
    (after { dosing .moving with
        positioner := { running.positioner with state := .homing }
        line := { running.line with pendingMode := some .pause }
        station := { serving .moving with awaitHoming := true } } .homingComplete).station.resume =
      some .homing := by decide +kernel

/-! ## Witnesses: bays, lidder and lanes -/

theorem witness_BayOperates :
    ((bayAt .loading false false none).supply.warned = false ∧ (bayAt .loading false false none).startsAllowed = true ∧
      ((bayAt .loading false false none).bay .two).state = .loading ∧
      ((bayAt .loading false false none).bay .two).mixDone = false ∧
      ((bayAt .loading false false none).bay .two).present = true ∧
      ((bayAt .loading false false none).bay .two).clampClosed = false) ∧
    ((bayAt .loading true false none).bay .two).clampClosed = true ∧
    (running.bay .one).present = false ∧ ((bayAt .loading true true none).bay .two).mixDone = true ∧
    ((bayAt .clamping false false none).bay .two).state = .clamping ∧
    ((bayAt .spinning true false none).bay .two).state = .spinning ∧
    (((bayAt .braking true true (some .spinEnd)).bay .two).cause = some .spinEnd ∧
      ((bayAt .braking true true (some .spinEnd)).bay .two).clampClosed = true) ∧
    ((bayAt .braking true false (some .imbalance)).bay .two).cause = some .imbalance ∧
    ((bayAt .braking true false (some .clamp)).bay .two).cause = some .clamp ∧
    ((bayAt .unclamping true true none).bay .two).state = .unclamping ∧
    ({ (bayAt .clamping false false none).bay .two with present := false } : Bay).state = .clamping ∧
    (((bayAt .braking false true (some .spinEnd)).bay .two).cause = some .spinEnd ∧
      ((bayAt .braking false true (some .spinEnd)).bay .two).clampClosed = false) ∧
    ((bayAt .clearing true true none).bay .two).state ∈ [BayState.halted, .clearing] ∧
    ((bayAt .halted true false none).bay .two).state ∈ [BayState.halted, .clearing] := by decide +kernel

theorem witness_BayFaultReadyAndClearing :
    ((bayAt .ready false true none).bay .two).tin = some tinRef ∧
    ((bayAt .ready false true none).bay .two).state ∈
      [BayState.empty, .loading, .clamping, .braking, .unclamping, .ready, .fault, .halted] ∧
    (((bayAt .clearing false true none).bay .two).state = .clearing ∧
      ((bayAt .clearing false true none).bay .two).tin = some tinRef) ∧
    (bayAt .clearing false true none).record (.bay .two) = none := by decide +kernel

/-- A lidder with a resume point, or LIDS_LOADED taken. -/
def lidderWith (st : LidderState) (r : Option LidResume) (loaded : Bool) (m : Magazines) : State :=
  { lidderAt st with lidder := { (lidderAt st).lidder with resume := r, loaded := loaded, magazines := m } }

/-- Empty magazines. -/
def noLids : Magazines := { a := 0, b := 0, c := 0, d := 0, e := 0 }

theorem witness_LidderBeginsPlacing :
    ((lidderWith .receiving (some .place) false { noLids with c := 1 }).supply.warned = false ∧
      (lidderWith .receiving (some .place) false { noLids with c := 1 }).startsAllowed = true ∧
      (lidderWith .receiving (some .place) false { noLids with c := 1 }).lidder.tin =
        some { order := 930, tin := 14, cls := .C } ∧
      (lidderWith .receiving (some .place) false { noLids with c := 1 }).lidder.present = true ∧
      1 ≤ (lidderWith .receiving (some .place) false { noLids with c := 1 }).lidder.magazines.count .C) ∧
    ((lidderWith .waitLids none true { noLids with c := 80 }).lidder.state = .waitLids ∧
      (lidderWith .waitLids none true { noLids with c := 80 }).lidder.loaded = true) ∧
    (lidderWith .receiving (some .place) false noLids).lidder.magazines.count .C = 0 ∧
    (lidderWith .receiving (some .press) false noLids).lidder.resume = some .press ∧
    (lidderWith .waitLids none false noLids).lidder.loaded = false := by decide +kernel

theorem witness_LidPlacedPressedAndChecked :
    ((lidderAt .placing).supply.warned = false ∧
      (lidderAt .placing).lidder.tin = some { order := 930, tin := 14, cls := .C } ∧
      (lidderAt .placing).lidder.state = .placing) ∧
    ((lidderAt .pressing).lidder.state = .pressing ∧ (lidderAt .pressing).lidder.repressUsed = false) ∧
    ({ (lidderAt .pressing).lidder with repressUsed := true } : Lidder).repressUsed = true := by decide +kernel

theorem witness_LidderAndLaneSensors :
    (running.supply.warned = false ∧ running.record .lidder = none) ∧
    ((carrying running .lidder haltedTransfer).record .lidder = some haltedTransfer ∧
      haltedTransfer.state ≠ .running) ∧
    running.lidder.state ≠ .clearing ∧
    ((lidderAt .clearing).lidder.state = .clearing ∧
      (lidderAt .clearing).lidder.tin = some { order := 930, tin := 14, cls := .C }) ∧
    ((carrying running .outlet runningTransfer).record .outlet = some runningTransfer ∧
      runningTransfer.lane = some 5 ∧ runningTransfer.state = .running ∧
      ({ runningTransfer with state := .halted } : Transfer).state ≠ .running) ∧
    running.record .outlet = none ∧ (inLane .reserved).lanes[(2 : Fin 6)].state ∈ [LaneState.empty, .reserved] ∧
    ((inLane .collect).lanes[(2 : Fin 6)].state = .collect ∧ (inLane .collect).lanes[(2 : Fin 6)].tin = some tinRef ∧
      (inLane .collect).order? tinRef.order = some (order .outlet) ∧ (order .outlet).pendingEnd = none) ∧
    ((inLane .check).lanes[(2 : Fin 6)].state = .check ∧ (inLane .check).book.slot ≠ some tinRef.order) ∧
    (inLane .clearing).lanes[(2 : Fin 6)].state = .clearing := by decide +kernel

/-! ## Witnesses: station, weigh cell, carousel and strokes -/

/-- The station in a state with no settle in progress. -/
def stationAt (st : StationState) (waits : Bool) : State :=
  { dosing st with station := { serving st with arrivalWaits := waits } }

/-- A settle with some samples in its span. -/
def settling (n : Nat) : State :=
  { dosing .settling with
    weigh := { State.reset.weigh with settling := true, span := List.replicate n 3412560 } }

theorem witness_StationSensesItsTin :
    ((carrying running .dispense runningTransfer).record .dispense = some runningTransfer ∧
      runningTransfer.state = .running) ∧
    ((carrying running .dispense haltedTransfer).record .dispense = some haltedTransfer ∧
      haltedTransfer.state ≠ .running) ∧
    ((stationAt .receiving true).supply.warned = false ∧ (stationAt .receiving true).record .dispense = none ∧
      (stationAt .receiving true).station.state = .receiving ∧
      (stationAt .receiving true).station.arrivalWaits = true) ∧
    ((stationAt .receiving false).station.state ≠ .awaitRemakeTin ∧
      (stationAt .receiving false).station.arrivalWaits = false) ∧
    ((stationAt .awaitRemakeTin false).station.state = .awaitRemakeTin ∧
      (stationAt .awaitRemakeTin false).record .dispense = none ∧
      (stationAt .awaitRemakeTin false).order? (stationAt .awaitRemakeTin false).served =
        some (order .dispensing) ∧ (order .dispensing).cls = .C ∧ TinClass.B ≠ (order .dispensing).cls) ∧
    ((settling 15).weigh.settling = true ∧ (settling 15).weigh.span.length < 16) ∧
    ((stationAt .clearing false).weigh.settling = false ∧ (stationAt .clearing false).station.state = .clearing ∧
      (stationAt .clearing false).station.order = some 930) ∧
    (stationAt .receiving false).station.state ≠ .clearing := by decide +kernel

/-- A settle for a purpose, the order with a plan on the station, a partial plan or neither. -/
def settlingFor (why : SettlePurpose) (active part : Option PlanContext) : State :=
  { withOrder (settling 16) { order .dispensing with partialPlan := part } with
    station := { serving .settling with settleFor := why, plan := active } }

theorem witness_WeighCellSettles :
    ((settlingFor .tare none none).station.settleFor = .tare ∧ (settlingFor .tare none none).station.plan = none ∧
      (settlingFor .tare none none).order? (settlingFor .tare none none).served = some (order .dispensing) ∧
      (settlingFor .tare (some (plan (entry .pending))) none).station.plan = some (plan (entry .pending)) ∧
      ({ order .dispensing with partialPlan := some (plan (entry .partialShot)) } : Order).partialPlan =
        some (plan (entry .partialShot))) ∧
    (built ((settling 16).newPlan (order .dispensing) 6)).sum ≤ (built ((settling 16).newPlan (order .dispensing) 6)).available ∧
    ((settlingFor .phaseStart none none).station.settleFor = .phaseStart ∧
      (settlingFor .phaseStart none none).station.cur = some shot ∧
      (settlingFor .phaseStart none none).station.tin = some tinC ∧ shot.phase ≠ .manual) ∧
    (settlingFor .verdict none none).station.settleFor = .verdict ∧
    ((settling 15).supply.warned = false ∧ (settling 15).weigh.settling = true ∧
      (settling 15).weigh.span.length < 16 ∧ (settling 15).weigh.fault = false ∧ 30000000 ≤ 30000000) ∧
    (settling 0).weigh.span.length < 16 ∧ running.weigh.settling = false ∧
    ((settling 16).weigh.settling = true ∧ (settling 16).weigh.span.length = 16) := by decide +kernel

/-- A station in PAUSED_HOLD with a resume point. -/
def holding (r : ResumePoint) (st : EntryState) : State :=
  { dosing .pausedHold with
    positioner := running.positioner
    station := { serving .pausedHold with resume := some r, plan := some (plan (entry st)) } }

/-- An entry taken up again with the remainder computed for it. -/
def owedEntry : Entry :=
  { entry .active with
    delivered := 5556, owed := some { target := { mass := 27500, tol := 550 }, strokes := [5556, 5555] } }

/-- The station that waits to serve it. -/
def takenUp : State :=
  { holding .serve .active with station := { (holding .serve .active).station with plan := some (plan owedEntry) } }

/-- The hand's entry of section 2.3's line, its measured mass as given. -/
def handEntry (m : Option Nat) : Entry :=
  { entry .pending with pos := none, flags := { manual := true }, measured := m }

/-- The station that reaches a plan's entries next, a fresh reading needed or not. -/
def reaching (fresh : Bool) (es : List Entry) : State :=
  { holding .next .pending with station := { (holding .next .pending).station with
      plan := some { plan (entry .done) with entries := es }, freshNeeded := fresh } }

/-- R70: a PARTIAL entry that owes nothing, its position holding another code, is DONE and a MANUAL entry of volume 0 is
appended after it. -/
theorem test_recalibrated_owing_nothing :
    ((({ running with canisters := State.reset.canisters.set 6 { can6 with code := 62, mark := 2 } } : State).recomputeAt
        [{ entry .partialShot with delivered := 16667, deliveredVolume := 31250625 }] 0).toOption.map fun es =>
      es.map fun e => (e.state, e.flags.recalibrated, e.volume)) =
      some [(.done, true, 31250625), (.pending, true, 0)] := by decide +kernel

/-- R98: a sample above 30,000,000 mg without the cell's mark is invalid and starts the span again. -/
theorem test_sample_above_range : (after (settling 15) (.weighSample 30000010 false)).weigh.span = [] := by
  decide +kernel

theorem witness_StationResumesItsOperation :
    ((holding .tare .pending).supply.warned = false ∧ (holding .tare .pending).startsAllowed = true ∧
      (holding .tare .pending).station.state = .pausedHold ∧ (holding .tare .pending).station.resume = some .tare ∧
      (holding .tare .pending).weigh.fault = false ∧ (holding .tare .pending).station.present = true) ∧
    ((holding .next .pending).startsAllowed = true ∧ (holding .next .pending).station.resume = some .next ∧
      (holding .next .pending).station.plan = some (plan (entry .pending)) ∧
      (plan (entry .pending)).entries = [] ++ entry .pending :: [] ∧
      (holding .next .pending).order? (holding .next .pending).served = some (order .dispensing) ∧
      (order .dispensing).flags.lidded = false ∧ (entry .pending).flags.manual = false ∧
      (entry .pending).state = .pending ∧ (entry .pending).delivered = 0 ∧ (entry .pending).topup = 0 ∧
      (entry .pending).pos = some 6 ∧ (holding .next .pending).positioner.state = .homed ∧
      (holding .next .pending).positioner.position ≠ 6) ∧
    ((holding .next .done).startsAllowed = true ∧ (holding .next .done).station.plan = some (plan (entry .done)) ∧
      (∀ e ∈ (plan (entry .done)).entries, e.state ∈ [EntryState.done, .skipped, .failed]) ∧
      (order .dispensing).route.mix = true ∧ (order .dispensing).state ∈ [OrderState.dispensing, .manual] ∧
      ({ order .manual with route := { dispense := true, mix := false, lid := true } } : Order).route.mix = false) ∧
    ((reaching false [entry .done, handEntry none]).supply.warned = false ∧
      (reaching false [entry .done, handEntry none]).startsAllowed = true ∧
      (reaching false [entry .done, handEntry none]).station.state = .pausedHold ∧
      (reaching false [entry .done, handEntry none]).station.resume = some .next ∧
      [entry .done, handEntry none] = [entry .done] ++ handEntry none :: [] ∧
      (∀ x ∈ [entry .done, handEntry none],
        x.state ∉ [EntryState.partialShot, .active] ∧ (x.flags.manual = false → x.state ≠ .pending)) ∧
      (∀ x ∈ [entry .done], x.state ≠ .pending) ∧ (handEntry none).flags.manual = true ∧
      (handEntry none).state = .pending ∧
      (reaching false [entry .done, handEntry none]).order? 930 = some (order .dispensing) ∧
      (reaching false [entry .done, handEntry none]).served = 930 ∧
      (reaching false [entry .done, handEntry none]).station.tin = some tinC ∧ tinC.last = some 3412560 ∧
      (handEntry none).measured.getD 0 = 0 ∧
      (reaching false [entry .done, handEntry none]).station.freshNeeded = false) ∧
    (0 < (handEntry (some 20000)).measured.getD 0 ∧ (handEntry (some 20000)).mass = some 41251 ∧
      (reaching true [handEntry (some 20000)]).densityOf 61 = some 1320 ∧
      (reaching true [handEntry (some 20000)]).station.freshNeeded = true ∧
      (reaching true [handEntry (some 20000)]).weigh.fault = false ∧
      (reaching true [handEntry (some 20000)]).station.present = true) ∧
    (takenUp.startsAllowed = true ∧ takenUp.station.state = .pausedHold ∧ takenUp.station.resume = some .serve ∧
      takenUp.station.cur = some shot ∧ takenUp.station.plan = some (plan owedEntry) ∧
      (plan owedEntry).entries[shot.index]? = some owedEntry ∧ owedEntry.state = .active ∧
      owedEntry.owed = some { target := { mass := 27500, tol := 550 }, strokes := [5556, 5555] } ∧
      takenUp.order? takenUp.served = some (order .dispensing) ∧ takenUp.positioner.position ≠ 6) := by
  refine ⟨?_, ?_, ?_, ?_, ?_, ?_⟩ <;> decide +kernel

/-- A move from 0 to 6 that the station awaits, after some passes. -/
def movingFor (st : StationState) (passes : Nat) : State :=
  { dosing st with
    positioner := { running.positioner with
      state := .moving, move := some { moveRecord 0 6 with passes := passes } } }

theorem witness_MovesTakeTheShorterWay :
    (0 : Position) ≠ 12 ∧
    ((movingFor .idle 0).supply.warned = false ∧ (movingFor .idle 0).positioner.move = some (moveRecord 0 6) ∧
      (moveRecord 0 6).passes = (moveRecord 0 6).expected ∧ (movingFor .idle 0).awaitsMove = false) ∧
    (movingFor .moving 0).awaitsMove = true ∧
    ((movingFor .moving 1).positioner.move = some { moveRecord 0 6 with passes := 1 } ∧
      ({ moveRecord 0 6 with passes := 1 } : MoveRecord).passes ≠ (moveRecord 0 6).expected ∧
      (movingFor .moving 1).awaitsMove = true) ∧
    ((movingFor .moving 0).positioner.state = .moving ∧ 6 ≤ (moveRecord 0 6).places) := by decide +kernel

/-- A homing in progress, its mark seen or not, with or without a pending RUN. -/
def homing (seen : Bool) (p : Option PendingMode) : State :=
  { inMode .paused p with positioner := { State.reset.positioner with state := .homing, markSeen := seen } }

theorem witness_HomingAndTheHomeMark :
    ((movingFor .moving 0).positioner.state = .moving ∧
      (movingFor .moving 0).positioner.move = some (moveRecord 0 6)) ∧
    (homing false none).positioner.state = .homing ∧
    (running.positioner.state = .homed ∧ running.station.state ≠ .stroking) ∧
    State.reset.positioner.state ∈ [PositionerState.unhomed, .lost, .failed] ∧
    ((homing true none).supply.warned = false ∧ (homing true none).station.awaitHoming = false ∧
      (homing true none).line.pendingMode ≠ some .run) ∧
    ((homing true (some .run)).line.pendingMode = some .run ∧ (homing true (some .run)).line.mode = .paused) ∧
    (homing false none).positioner.markSeen = false ∧ (homing true none).positioner.markSeen = true := by
  decide +kernel

theorem witness_StrokeEndIsCountedAndDebited :
    (dosing .stroking).current? = some (shot, entry .active) ∧ (entry .active).pos = some 6 ∧
    (∃ k, some 6000 = some k ∧ 5556 = min k (shot.strokes.getD shot.ended 0)) ∧
    5556 = shot.strokes.getD shot.ended 0 := ⟨rfl, rfl, ⟨6000, rfl, rfl⟩, rfl⟩

/-- R48, R49: a level at the threshold is not LOW and one below it is; a usable volume below m × d is DRY. -/
theorem witness_debit_notices :
    let low (v : Nat) : Bool := decide (can6.code ≠ 0 ∧ v < can6.low * 1000000)
    let dry (v : Nat) : Bool := decide (can6.code ≠ 0 ∧ v - can6.floor < can6.m * can6.d)
    low 10000000 = false ∧ low 9999999 = true ∧ dry 5075000 = false ∧ dry 5074999 = true ∧
    can6.lowArmed = true ∧ can6.dryArmed = true := by decide +kernel

/-- The shot of section 5.4 in its last stroke. -/
def lastStroke : State :=
  { dosing .stroking with station := { serving .stroking with cur := some { shot with ended := 2 } } }

theorem witness_StrokeEndsByItsEvent :
    ((dosing .stroking).supply.warned = false ∧ (dosing .stroking).station.state = .stroking ∧
      (dosing .stroking).current? = some (shot, entry .active) ∧
      (dosing .stroking).order? (dosing .stroking).served = some (order .dispensing) ∧
      (order .dispensing).pendingEnd = none ∧ shot.strokes[shot.ended]? = some 5556 ∧
      shot.ended + 1 < shot.strokes.length) ∧
    (lastStroke.current? = some ({ shot with ended := 2 }, entry .active) ∧
      shot.strokes.length = ({ shot with ended := 2 } : CurrentEntry).ended + 1) ∧
    (5555 < 5556) ∧ (dosing .stroking).positioner.state = .homed ∧
    ((dosing .stroking).canisters[(6 : Fin 24)].drawing = true ∧ (dosing .stroking).canisters[(6 : Fin 24)].code ≠ 0) ∧
    (running.supply.warned = false ∧ running.station.state ≠ .stroking ∧
      running.canisters[(6 : Fin 24)].code ≠ 0) ∧
    running.canisters[(0 : Fin 24)].code = 0 ∧
    (waiting.canisters[(6 : Fin 24)].code ≠ 0 ∧ waiting.station.state = .waitCanister ∧
      waiting.current? = some (shot, entry .done) ∧ (entry .done).pos = some 6) := by decide +kernel

/-- A pass of a command that begins a stroke: the move to position 6 has arrived. -/
theorem witness_StrokeBeginsOnlyWhenReady :
    exec .moveArrived { movingFor .moving 0 with
        positioner := { running.positioner with state := .moving, move := some (moveRecord 0 6) } } =
      .next (after { movingFor .moving 0 with
        positioner := { running.positioner with state := .moving, move := some (moveRecord 0 6) } } .moveArrived) ∧
    (movingFor .moving 0).station.state ≠ .stroking ∧
    (after { movingFor .moving 0 with
        positioner := { running.positioner with state := .moving, move := some (moveRecord 0 6) } }
      .moveArrived).station.state = .stroking ∧
    ((dosing .stroking).supply.warned = false ∧ (dosing .stroking).current? = some (shot, entry .active) ∧
      (entry .active).pos ≠ none) ∧
    exec (.pumpComplete (some 5556)) (dosing .stroking) = .next (after (dosing .stroking) (.pumpComplete (some 5556))) ∧
    (after (dosing .stroking) (.pumpComplete (some 5556))).station.state = .stroking :=
  ⟨rfl, by decide +kernel, by decide +kernel, by decide +kernel, rfl, by decide +kernel⟩

/-! ## Witnesses: supply loss, start-up, arithmetic and invariants -/

theorem witness_SupplyWarningSecuresTheState :
    running.supply.warned = false ∧ running.station.state ≠ .stroking ∧
    ((dosing .stroking).supply.warned = false ∧ (dosing .stroking).station.state = .stroking ∧
      (dosing .stroking).current? = some (shot, entry .active)) := by decide +kernel

/-- The sensors of a line with no tin and canister 6 seated. -/
def sensors : Sensors :=
  { intake := false, intakeClass := .A, intakeLid := false, dispense := false, dispenseClass := .A,
    dispenseLid := false, bayOne := false, bayTwo := false, clampOne := false, clampTwo := false, lidder := false,
    lanes := Vector.replicate 6 false, seated := (Vector.replicate 24 false).set 6 true, scaleFault := false,
    chainOpen := false, homeMark := false, cts := true }

theorem witness_ColdStartTakenWhole : sensors.chainOpen = false := rfl

theorem witness_WarmStartMapsTheOrders :
    sensors.chainOpen = false ∧ ((dosing .stroking).book.orders.map Order.number).Nodup ∧
    order .dispensing ∈ (dosing .stroking).book.orders ∧ (order .dispensing).pendingEnd = none ∧
    (order .dispensing).state ∈ [OrderState.bound, .dispensing, .manual, .held, .dispensed, .mixing, .lidding] ∧
    ({ order .mixing with pendingEnd := some .scrapped } : Order).pendingEnd ≠ none ∧
    (order .interrupted).state = .interrupted ∧ (order .check).state = .check ∧
    ((dosing .stroking).supply.clean = false ∧ (dosing .stroking).stationPlan 930 = some (plan (entry .active)) ∧
      (order .dispensing).receivedColourant ((dosing .stroking).keptPlan (order .dispensing)) = false) ∧
    ((inLane .collect).lanes[(2 : Fin 6)].state = .collect ∧ (order .outlet).state = .outlet ∧
      (inLane .collect).lanes[(2 : Fin 6)].tin.map TinRef.order = some (order .outlet).number ∧
      (sensors.lanes.set 2 true)[(2 : Fin 6)] = true ∧ sensors.lanes[(2 : Fin 6)] = false) ∧
    (inLane .check).lanes[(2 : Fin 6)].state = .check := by decide +kernel

theorem witness_StrokesDivideTheSteps : 0 < 8000 ∧ (strokesOf 0 8000).length = 0 := by decide +kernel

theorem witness_VolumeAndMassOfAnEntry : 0 < 1 := by decide

/-- The canister of section 2.3 with a usable volume of some nL. -/
def usable6 (v : Nat) : Canister := { can6 with level := 5000000 + v }

theorem witness_VerdictByEvidence :
    ((judging shot).current? = some (shot, entry .active) ∧ shot.phase ≠ .manual ∧
      (judging shot).order? (judging shot).served = some (order .dispensing) ∧
      (order .dispensing).pendingEnd = none ∧
      ({ order .dispensing with pendingEnd := some .cancelled } : Order).pendingEnd ≠ none ∧
      verdictOf { shot with counted := 16667 } false (increment (some 0) (some 40425)) = .under ∧
      verdictOf { shot with counted := 16667 } false (increment (some 0) (some 40426)) = .pass ∧
      verdictOf { shot with counted := 16667 } false (increment (some 0) (some 42076)) = .pass ∧
      verdictOf { shot with counted := 16667 } false (increment (some 0) (some 42077)) = .over) ∧
    ((entry .active).pos = some 6 ∧ (judging shot).canisters[(6 : Fin 24)].code = (entry .active).code ∧
      max can6.m (halfUp ((41251 - 40425) * 1000000) (can6.rho * can6.d)) = 334 ∧
      334 * can6.d ≤ (usable6 626250).level - can6.floor ∧ (usable6 626249).level - can6.floor < 334 * can6.d ∧
      ((usable6 626249).level - can6.floor) / can6.d = 333 ∧
      ((usable6 74999).level - can6.floor) / can6.d < can6.m ∧
      ((plan (entry .active)).entries.any fun x => x.flags.topupManual) = false ∧
      (([entry .active, { handEntry none with flags := { manual := true, topupManual := true } }].any fun x =>
        x.flags.topupManual && x.line == (entry .active).line) = true) ∧
      0 < 41251 - 40425 - halfUp (0 * can6.d * can6.rho) 1000000) ∧
    (shot.countPresent = true ∧ shot.counted < shot.strokes.sum) ∧
    ({ shot with counted := 16667 } : CurrentEntry).strokes.sum ≤ 16667 ∧ shot.target = some { mass := 41251, tol := 825 } ∧
    ({ shot with countPresent := false } : CurrentEntry).countPresent = false := by decide +kernel

/-- A line with a command in its queue. -/
def stepping : State := { dosing .stroking with pending := [.estopChainOpen (some 100) 0] }

theorem witness_LineInvKeptByEveryStep : stepping.LineInv ∧ ∃ t, step stepping = .next t :=
  ⟨by unfold State.LineInv; decide +kernel, _, rfl⟩

theorem witness_BoundsKeptByEveryStep :
    stepping.QueueInv ∧ stepping.BookInv ∧ (∃ t, step stepping = .next t) :=
  ⟨by unfold State.QueueInv; decide +kernel, by unfold State.BookInv; decide +kernel, _, rfl⟩

/-- Blank tables are sound. -/
theorem blank_sound : Tables.blank.Sound := by
  constructor
  · decide +kernel
  · unfold Settings.InRange; decide +kernel

/-- A stopped line with blank tables and a command in its queue. -/
def blankLine : State := { State.reset with pending := [.lidsLoaded 1 [3, 90]] }

theorem witness_TablesInvKeptByEveryStep : blankLine.TablesInv ∧ ∃ t, step blankLine = .next t :=
  ⟨⟨blank_sound, blank_sound, nofun, by intro c; cases c <;> decide⟩, _, rfl⟩

end Sys2Proof.Tests
end

section
/-! Rounding half up as one division, and what an automatic entry records (O55). -/

namespace Sys2Proof.Machine

/-- A doubled remainder plus the divisor holds the doubled divisor once from the half on, and not at all below it. -/
theorem two_mul_add_div_two_mul_of_lt {r b : Nat} (hr : r < b) :
    (2 * r + b) / (2 * b) = if b ≤ 2 * r then 1 else 0 := by
  split
  case isTrue half => exact Nat.div_eq_of_lt_le (by omega) (by omega)
  case isFalse below => exact Nat.div_eq_of_lt (by omega)

/-- Half up is the whole part of the quotient plus one half: a whole multiple of b leaves the doubled division, and the
remainder decides the last unit (R22). -/
theorem halfUp_eq_div {b : Nat} (a : Nat) (hb : 0 < b) : halfUp a b = (2 * a + b) / (2 * b) := by
  have numerator_eq : 2 * a + b = (2 * (a % b) + b) + 2 * b * (a / b) := by
    linarith [Nat.mod_add_div a b]
  calc halfUp a b = (if b ≤ 2 * (a % b) then 1 else 0) + a / b := Nat.add_comm _ _
    _ = (2 * (a % b) + b) / (2 * b) + a / b := by rw [two_mul_add_div_two_mul_of_lt (Nat.mod_lt a hb)]
    _ = (2 * a + b) / (2 * b) := by rw [numerator_eq, Nat.add_mul_div_left _ _ (by omega)]

/-- The mass of a volume as one division: mg from nL at mg per mL, rounded half up (R28). -/
theorem massOf_eq_div (volume rho : Nat) :
    massOf volume rho = (2 * (volume * rho) + 1000000) / 2000000 :=
  halfUp_eq_div (volume * rho) (by decide)

section
variable (s : State) (round line code : Nat) (p : Position) (r : Nat) (f : EntryFlags)

@[simp] theorem State.autoEntry_steps : (s.autoEntry round line code p r f).steps = r := rfl

@[simp] theorem State.autoEntry_volume :
    (s.autoEntry round line code p r f).volume = r * s.canisters[p].d := rfl

@[simp] theorem State.autoEntry_mass :
    (s.autoEntry round line code p r f).mass =
      some (massOf (r * s.canisters[p].d) s.canisters[p].rho) := rfl

end

/-- Settles O55, from half up as one division and the fields an automatic entry records. -/
theorem volumeAndMassOfAnEntry : Obligations.VolumeAndMassOfAnEntry := by
  refine ⟨fun a _ hb => halfUp_eq_div a hb, fun s round line code p r f => ⟨?steps, ?volume, ?mass⟩⟩
  case steps => exact State.autoEntry_steps s round line code p r f
  case volume => exact State.autoEntry_volume s round line code p r f
  case mass => rw [State.autoEntry_mass, massOf_eq_div]

end Sys2Proof.Machine
end

section
/-! STOP_RESET: what its owner makes of it in STOPPED with the chain closed and in every other case (O30). -/

namespace Sys2Proof.Machine

section
variable {w : State}

/-- The latch is cleared, and since STOPPED is not PAUSED the change of mode appends its notice (R149). -/
theorem State.answerStopReset_of_stopped_closed (stopped : w.line.mode = .stopped)
    (closed : w.line.chainOpen = false) :
    w.answerStopReset [] = ({ w with
      line := { w.line with mode := .paused, pendingMode := none, latch := false }
      notices := queueNotice w.notices (.lineMode .paused none) } : State).accept := by
  have leaves_stopped : w.line.mode ≠ .paused := by simp [stopped]
  calc w.answerStopReset []
      = (({ w with line := { w.line with latch := false } } : State).setMode .paused none).accept :=
        if_pos ⟨stopped, by simp [closed]⟩
    _ = _ := by rw [State.setMode_eq, if_neg leaves_stopped]

/-- Outside STOPPED, or with the chain open, the request changes nothing (R149). -/
theorem State.answerStopReset_of_not_stopped_or_open (h : w.line.mode ≠ .stopped ∨ w.line.chainOpen = true) :
    w.answerStopReset [] = w.refuse .mode := by
  have not_allowed : ¬(w.line.mode = .stopped ∧ !w.line.chainOpen) := by
    rcases h with not_stopped | chain_open
    · exact fun ⟨stopped, _⟩ => not_stopped stopped
    · simp [chain_open]
  exact if_neg not_allowed

/-- STOP_RESET taken by a working controller is its owner's answer and the end of every command. -/
theorem exec_stopReset_of_takes {s : State} {tag : Byte} {payload : List Byte} (h : s.Takes w 0x43 tag payload) :
    exec (.stopReset tag payload) s =
      .next ((w.answerStopReset payload).state.answered 0x43 tag (w.answerStopReset payload).status
        (w.answerStopReset payload).body).finish :=
  State.requestCommand_of_takes h (State.answerStopReset payload)

end

/-- Settles O30, from the request's arm and the two answers of its owner. -/
theorem stopResetOnlyInStoppedWithTheChainClosed : Obligations.StopResetOnlyInStoppedWithTheChainClosed := by
  intro s w tag taken
  refine ⟨fun stopped closed => ?reset, fun other => ?refused⟩
  case reset =>
    rw [exec_stopReset_of_takes taken, State.answerStopReset_of_stopped_closed stopped closed]
    rfl
  case refused =>
    rw [exec_stopReset_of_takes taken, State.answerStopReset_of_not_stopped_or_open other]
    rfl

end Sys2Proof.Machine
end

section
/-! A notice that merges with no entry: appended, appended in place of the oldest PROGRESS entry, or discarded
(O7). -/

namespace Sys2Proof.Machine

theorem Notice.isProgress_iff (n : Notice) : n.isProgress = true ↔ n.body.cls = .progress := by
  simp [Notice.isProgress]

section
variable {q : List Notice} {b : NoticeBody}

/-- With room in the queue the notice is appended at its tail (R163). -/
theorem queueNotice_of_room (unmatched : ∀ n ∈ q, n.body.sameSubject b = false) (room : q.length < 64) :
    queueNotice q b = q ++ [{ body := b, count := 1 }] := by
  rw [queueNotice, mergeNotice_eq_none.2 unmatched]
  exact if_pos room

/-- A full queue takes the notice only in place of its oldest PROGRESS entry (R163, log 21). -/
theorem queueNotice_of_full (unmatched : ∀ n ∈ q, n.body.sameSubject b = false) (full : 64 ≤ q.length) :
    queueNotice q b =
      if q.any Notice.isProgress then q.eraseP Notice.isProgress ++ [{ body := b, count := 1 }] else q := by
  rw [queueNotice, mergeNotice_eq_none.2 unmatched]
  exact if_neg full.not_gt

/-- At a full queue that holds a PROGRESS entry the oldest of them makes room for the notice (R163). -/
theorem queueNotice_of_full_of_progress (unmatched : ∀ n ∈ q, n.body.sameSubject b = false)
    (full : 64 ≤ q.length) (progress : ∃ n ∈ q, n.isProgress) :
    queueNotice q b = q.eraseP Notice.isProgress ++ [{ body := b, count := 1 }] := by
  rw [queueNotice_of_full unmatched full, if_pos (List.any_eq_true.2 progress)]

/-- A full queue without a PROGRESS entry stays as it is (R163, log 21). -/
theorem queueNotice_of_full_of_no_progress (unmatched : ∀ n ∈ q, n.body.sameSubject b = false)
    (full : 64 ≤ q.length) (no_progress : ¬∃ n ∈ q, n.isProgress) : queueNotice q b = q := by
  rw [queueNotice_of_full unmatched full, if_neg (mt List.any_eq_true.1 no_progress)]

/-- Only a PROGRESS entry can leave the queue when a notice merges with no entry (R163). -/
theorem mem_queueNotice_of_not_progress (unmatched : ∀ n ∈ q, n.body.sameSubject b = false) {n : Notice}
    (queued : n ∈ q) (not_progress : ¬n.isProgress) : n ∈ queueNotice q b := by
  by_cases room : q.length < 64
  · rw [queueNotice_of_room unmatched room]
    exact List.mem_append_left _ queued
  have full : 64 ≤ q.length := not_lt.1 room
  by_cases progress : ∃ m ∈ q, m.isProgress
  · rw [queueNotice_of_full_of_progress unmatched full progress]
    exact List.mem_append_left _ ((List.mem_eraseP_of_neg not_progress).2 queued)
  · rwa [queueNotice_of_full_of_no_progress unmatched full progress]

end

/-- The oldest PROGRESS entry is the one behind entries of the other classes alone. -/
theorem eraseP_isProgress_of_oldest {before after : List Notice} {n : Notice} (progress : n.isProgress)
    (oldest : ∀ m ∈ before, ¬m.isProgress) :
    (before ++ n :: after).eraseP Notice.isProgress = before ++ after := by
  rw [List.eraseP_append_right _ oldest, List.eraseP_cons_of_pos progress]

/-- Settles O7, by whether the queue has room and, where it is full, whether it holds a PROGRESS entry. -/
theorem noticeAppendedWithinSixtyFour : Obligations.NoticeAppendedWithinSixtyFour := by
  intro q b unmatched
  simp only [ne_eq, ← Notice.isProgress_iff]
  refine ⟨queueNotice_of_room unmatched, ?oldest, ?discarded, queueNotice_length_le q b,
    fun n => mem_queueNotice_of_not_progress unmatched⟩
  case oldest =>
    rintro full before n after rfl progress oldest
    rw [queueNotice_of_full_of_progress unmatched full ⟨n, by simp, progress⟩,
      eraseP_isProgress_of_oldest progress oldest]
  case discarded =>
    intro full _ no_progress
    exact queueNotice_of_full_of_no_progress unmatched full fun ⟨n, queued, progress⟩ =>
      no_progress n queued progress

end Sys2Proof.Machine
end

section
/-! What every operation keeps: the queue of commands, and the invariants of the line mode unit, the queues, the order
book and the tables (O2, O58, O59). One lemma per operation of the model, in the order of the definitions. -/

namespace Sys2Proof.Machine

/-- What the queue of commands and the invariants speak of. -/
def State.spoken (s : State) :
    List Instr × LineUnit × Supply × List InputEntry × List Notice × List Nat × Tables × Magazines :=
  (s.pending, s.line, s.supply, s.link.queue, s.notices, s.book.orders.map Order.number, s.tables, s.lidder.magazines)

/-- From one state to a later one the queue of commands stands, and the queues, the book and the tables are within their
bounds if they were. -/
structure BoundsKept (s t : State) : Prop where
  pending : t.pending = s.pending
  queues : s.QueueInv → t.QueueInv
  book : s.BookInv → t.BookInv
  tables : s.TablesInv → t.TablesInv

theorem BoundsKept.trans {s t u : State} (h : BoundsKept s t) (g : BoundsKept t u) : BoundsKept s u :=
  ⟨g.pending.trans h.pending, g.queues ∘ h.queues, g.book ∘ h.book, g.tables ∘ h.tables⟩

/-- From one state to a later one the queue of commands stands and every invariant that held still holds. -/
structure Kept (s t : State) : Prop extends BoundsKept s t where
  line : s.LineInv → t.LineInv

/-- A canister holds at most its capacity, as far as its position is configured (R40). -/
def Canister.Within (c : Canister) : Prop := c.configured = true → c.level ≤ c.capacity * 1000000

theorem Canister.Within.debited {c : Canister} (h : c.Within) (steps : Nat) : (c.debited steps).Within :=
  fun configured => (Nat.sub_le _ _).trans (h configured)

theorem Canister.Within.disarmed {c : Canister} (h : c.Within) : c.disarmed.Within := by
  rw [Canister.disarmed_eq]
  exact h

theorem putReply_length (r : Reply) (q : List InputEntry) : (putReply r q).length = q.length := by
  induction q with
  | nil => rfl
  | cons e rest ih =>
    unfold putReply
    split
    · rfl
    · simp [ih]

theorem foldl_queueFrame_length (fs : List Frame) (q : List InputEntry) (bound : q.length ≤ 4) :
    (fs.foldl queueFrame q).length ≤ 4 := by
  induction fs generalizing q with
  | nil => exact bound
  | cons f rest ih =>
    refine ih _ ?_
    unfold queueFrame
    split
    · rename_i room
      simpa [Config.inputQueueSize, Nat.lt_succ_iff] using room
    · exact bound

/-- The tables a cold start takes are sound: those of the flash store, or blank ones (R174). -/
theorem Supply.coldTables_sound (p : Supply) (flash : p.flash.Sound) : p.coldTables.Sound := by
  unfold Supply.coldTables
  split
  · exact flash
  · exact ⟨fun p => by simp [Tables.blank, Canister.configured],
      by simp [Tables.blank, Settings.defaults, Settings.InRange]⟩

namespace Kept

variable {s t u : State}

theorem refl (s : State) : Kept s s := ⟨⟨rfl, id, id, id⟩, id⟩

theorem trans (h : Kept s t) (g : Kept t u) : Kept s u :=
  ⟨h.toBoundsKept.trans g.toBoundsKept, g.line ∘ h.line⟩

/-- A change of nothing the invariants speak of. -/
theorem frame (h : Kept s t) (same : u.spoken = t.spoken) : Kept s u := by
  simp only [State.spoken, Prod.mk.injEq] at same
  obtain ⟨pending, line, supply, queue, notices, orders, tables, magazines⟩ := same
  have orders_length : u.book.orders.length = t.book.orders.length := by
    simpa using congrArg List.length orders
  refine h.trans ⟨⟨pending, ?_, ?_, ?_⟩, ?_⟩
  · simp only [State.QueueInv, queue, notices, imp_self]
  · simp only [State.BookInv, orders_length, orders, imp_self]
  · simp only [State.TablesInv, tables, supply, magazines, imp_self]
  · simp only [State.LineInv, line, supply, imp_self]

/-- A conditional operation keeps what both of its branches keep. -/
theorem ite {c : Prop} [Decidable c] (ht : Kept s t) (he : Kept s u) : Kept s (if c then t else u) := by
  split
  · exact ht
  · exact he

/-! ## The notice queue and the book -/

/-- A change of the notice queue alone that keeps it within 64 entries. -/
theorem withNotices (h : Kept s t) {q : List Notice} (bound : t.notices.length ≤ 64 → q.length ≤ 64) :
    Kept s { t with notices := q } :=
  h.trans ⟨⟨rfl, fun ⟨requests, notices⟩ => ⟨requests, bound notices⟩, id, id⟩, id⟩

theorem notify (h : Kept s t) {b : NoticeBody} : Kept s (t.notify b) :=
  h.withNotices (queueNotice_length_le _ _)

theorem foldl_notify (h : Kept s t) {l : List NoticeBody} : Kept s (l.foldl State.notify t) := by
  induction l generalizing t with
  | nil => exact h
  | cons b rest ih => exact ih h.notify

/-- A change of the book that takes orders out, or leaves their numbers. -/
theorem withBook (h : Kept s t) {b : Book}
    (orders : (b.orders.map Order.number).Sublist (t.book.orders.map Order.number)) :
    Kept s { t with book := b } := by
  refine h.trans ⟨⟨rfl, id, ?_, id⟩, id⟩
  rintro ⟨bound, nodup⟩
  have shorter := orders.length_le
  rw [List.length_map, List.length_map] at shorter
  exact ⟨shorter.trans bound, nodup.sublist orders⟩

theorem modOrder (h : Kept s t) {n : Nat} {f : Order → Order} (number : ∀ o, (f o).number = o.number) :
    Kept s (t.modOrder n f) :=
  h.frame (by simp only [State.spoken, t.modOrder_numbers n f number]; rfl)

theorem notifyOrder (h : Kept s t) {n : Nat} : Kept s (t.notifyOrder n) := by
  unfold State.notifyOrder
  split
  · exact h.notify
  · exact h

theorem changeOrder (h : Kept s t) {n : Nat} {st : OrderState} : Kept s (t.changeOrder n st) := by
  unfold State.changeOrder
  split
  · exact h.ite (h.modOrder (by intro; rfl)).notifyOrder
  · exact h

theorem setFlag (h : Kept s t) {n : Nat} {f : OrderFlags → OrderFlags} : Kept s (t.setFlag n f) :=
  h.modOrder (by intro; rfl)

theorem setRoute (h : Kept s t) {n : Nat} {f : Route → Route} : Kept s (t.setRoute n f) := h.modOrder (by intro; rfl)

theorem setPendingEnd (h : Kept s t) {n : Nat} {e : PendingEnd} : Kept s (t.setPendingEnd n e) :=
  h.modOrder (by intro; rfl)

theorem hold (h : Kept s t) {n : Nat} {d : Dest} {k : FaultKind} {x : Bool} {i : Option Nat} :
    Kept s (t.hold n d k x i) := by
  unfold State.hold
  split
  · exact h
  · exact h.ite (h.modOrder (by intro; rfl)).notifyOrder

theorem unhold (h : Kept s t) {n : Nat} : Kept s (t.unhold n) := by
  unfold State.unhold
  split
  · exact h
  · exact ite (h.modOrder (by intro; rfl)).notifyOrder h

theorem faultAtDest (h : Kept s t) {n : Nat} {d : Dest} {k : FaultKind} {x : Bool} :
    Kept s (t.faultAtDest n d k x) :=
  h.hold.notify

theorem freeOrder (h : Kept s t) {n : Nat} {r : EndReason} : Kept s (t.freeOrder n r) := by
  unfold State.freeOrder
  split
  · exact h
  · exact (h.notify.withBook (List.filter_sublist.map _)).frame rfl

theorem reportLift (h : Kept s t) {n : Nat} : Kept s (t.reportLift n) := by
  unfold State.reportLift
  split
  · exact h.freeOrder
  · exact h

theorem assignTin (h : Kept s t) {n : Nat} : Kept s (t.assignTin n) :=
  (h.modOrder (n := n) (f := fun o => { o with tin := some t.book.nextTin }) (by intro; rfl)).frame rfl

/-! ## The canister account and the line mode -/

/-- A change of the canisters alone, each within its capacity when all were. -/
theorem withCanisters (h : Kept s t) {v : Vector Canister 24}
    (within : (∀ p : Position, t.canisters[p].Within) → ∀ p : Position, v[p].Within) :
    Kept s { t with canisters := v } :=
  h.trans ⟨⟨rfl, id, id, fun ⟨⟨canisters, settings⟩, rest⟩ => ⟨⟨within canisters, settings⟩, rest⟩⟩, id⟩

theorem modCanister (h : Kept s t) {p : Position} {f : Canister → Canister}
    (within : t.canisters[p].Within → (f t.canisters[p]).Within) : Kept s (t.modCanister p f) := by
  refine h.withCanisters fun all q => ?_
  by_cases same : p = q
  · subst same
    simpa using within (all p)
  · have other : p.val ≠ q.val := fun e => same (Fin.ext e)
    simpa [Vector.getElem_set_ne, other] using all q

theorem debit (h : Kept s t) {p : Position} {n : Nat} : Kept s (t.debit p n) := by
  have debited : Kept s (t.modCanister p fun _ => (t.canisters[p].debited n).disarmed) :=
    h.modCanister fun within => (within.debited n).disarmed
  unfold State.debit
  dsimp only
  split
  · exact debited.notify
  · exact debited

/-- A change of the mode or the pending request in a line that is not STOPPED and does not become so. -/
theorem withMode (h : Kept s t) {m : LineMode} {p : Option PendingMode} (before : t.LineInv → t.line.mode ≠ .stopped)
    (after : m ≠ .stopped) : Kept s { t with line := { t.line with mode := m, pendingMode := p } } := by
  refine h.trans ⟨⟨rfl, id, id, id⟩, fun inv => ?_⟩
  have ⟨latch, _, chain⟩ := inv
  exact ⟨by simp [latch, before inv, after], fun stopped => absurd stopped after,
    fun working chainOpen => absurd (chain working chainOpen) (before inv)⟩

theorem setMode (h : Kept s t) {m : LineMode} {p : Option PendingMode} (before : t.LineInv → t.line.mode ≠ .stopped)
    (after : m ≠ .stopped) : Kept s (t.setMode m p) :=
  (h.withMode before after).ite (h.withMode before after).notify

/-- A pending request changes in a line that is not STOPPED. -/
theorem setPendingMode (h : Kept s t) {p : Option PendingMode} (running : t.line.mode ≠ .stopped) :
    Kept s (t.setPendingMode p) :=
  h.withMode (fun _ => running) running

/-! ## Stations, bays and records -/

theorem drawn (h : Kept s t) : Kept s t.drawn := h.frame rfl

theorem drawnInMotion (h : Kept s t) : Kept s t.drawnInMotion := ite h.drawn h

theorem modStation (h : Kept s t) {f : Station → Station} : Kept s (t.modStation f) := h.frame rfl

theorem modBay (h : Kept s t) {b : BayId} {f : Bay → Bay} : Kept s (t.modBay b f) := by
  cases b
  · exact h.frame rfl
  · exact h.frame rfl

theorem modLidder (h : Kept s t) {f : Lidder → Lidder}
    (magazines : (f t.lidder).magazines = t.lidder.magazines) : Kept s (t.modLidder f) :=
  h.frame (by simp only [State.spoken, State.modLidder_lidder, magazines]; rfl)

theorem modLane (h : Kept s t) {l : Lane} {f : LaneRecord → LaneRecord} : Kept s (t.modLane l f) := h.frame rfl

theorem setRecord (h : Kept s t) {d : Dest} {r : Option Transfer} : Kept s (t.setRecord d r) := h.frame rfl

theorem abandonSettle (h : Kept s t) : Kept s t.abandonSettle := h.frame rfl

/-! ## What ends every command -/

theorem holdWaiting (h : Kept s t) : Kept s t.holdWaiting := ite h.modStation h

theorem chooseFrame (h : Kept s t) : Kept s t.chooseFrame := by
  rcases t.chooseFrame_cases with same | ⟨r, reply⟩ | ⟨n, rest, queue, notice⟩
  · rwa [same]
  · rw [reply]
    exact h.frame rfl
  · rw [notice]
    have taken : Kept s { t with notices := rest } := h.withNotices (by simp [queue]; omega)
    exact taken.frame rfl

theorem resumeHalted (h : Kept s t) : Kept s t.resumeHalted := ite (h.frame rfl) h

theorem updateRts (h : Kept s t) : Kept s t.updateRts := h.frame rfl

theorem finish (h : Kept s t) : Kept s t.finish := h.holdWaiting.chooseFrame.resumeHalted.updateRts

end Kept

end Sys2Proof.Machine
end

section
/-! The dispense station's shared operations keep the invariants. -/

namespace Sys2Proof.Machine

namespace Kept

variable {s t u : State}

/-! ## The station's records, its faults and its clearing -/

theorem modPlan (h : Kept s t) {f : PlanContext → PlanContext} : Kept s (t.modPlan f) := h.frame rfl

theorem modEntry (h : Kept s t) {i : Nat} {f : Entry → Entry} : Kept s (t.modEntry i f) := h.frame rfl

theorem setEntry (h : Kept s t) {i : Nat} {st : EntryState} : Kept s (t.setEntry i st) := h.frame rfl

theorem modCur (h : Kept s t) {f : CurrentEntry → CurrentEntry} : Kept s (t.modCur f) := h.frame rfl

theorem modTin (h : Kept s t) {f : TinContext → TinContext} : Kept s (t.modTin f) := h.frame rfl

theorem goto (h : Kept s t) {st : StationState} : Kept s (t.goto st) := h.frame rfl

theorem raise (h : Kept s t) {k : FaultKind} {i : Option Nat} {x : FaultDetail} {st : StationState} :
    Kept s (t.raise k i x st) :=
  h.hold.notify.goto

theorem fault (h : Kept s t) {k : FaultKind} {i : Option Nat} {x : FaultDetail} : Kept s (t.fault k i x) := h.raise

theorem liftCleared (h : Kept s t) : Kept s t.liftCleared := by
  unfold State.liftCleared
  dsimp only
  split
  · exact h.reportLift.modStation
  · exact h.modStation

theorem enterClearing (h : Kept s t) : Kept s t.enterClearing := by
  unfold State.enterClearing
  dsimp only
  exact ite (h.frame rfl) (liftCleared (h.frame rfl))

/-! ## Strokes -/

theorem beginStroke (h : Kept s t) {p : Position} : Kept s (t.beginStroke p) :=
  (h.modCanister id).modStation

theorem waitCanister (h : Kept s t) {p : Position} {code : Nat} {f : Finding} :
    Kept s (t.waitCanister p code f) :=
  h.ite h.modStation.notify

theorem strokeCheck (h : Kept s t) : Kept s t.strokeCheck := by
  rcases t.strokeCheck_cases with same | ⟨c, e, k, -, -, fault | fault⟩ | ⟨c, e, p, n, -, -, -, -, -, -, stroke⟩ |
    ⟨c, e, p, f, -, -, -, wait⟩
  · rwa [same]
  · rw [fault]
    exact h.fault
  · rw [fault]
    exact h.setEntry.fault
  · rw [stroke]
    exact h.beginStroke
  · rw [wait]
    exact h.waitCanister

theorem endStroke (h : Kept s t) {count : Option Nat} : Kept s (t.endStroke count) := by
  unfold State.endStroke
  split
  · exact h
  · dsimp only
    split
    · exact h.debit.modEntry.modCur
    · exact h.modEntry.modCur

theorem haltStroke (h : Kept s t) {count : Option Nat} {k : FaultKind} : Kept s (t.haltStroke count k) := by
  unfold State.haltStroke
  dsimp only
  split
  · exact h.endStroke
  · exact ite h.endStroke.setEntry.enterClearing h.endStroke.setEntry.fault

/-! ## Settles, manual steps and phases -/

/-- A settle keeps what its absent reading keeps when it is handed at once. -/
theorem settle (h : Kept s t) {why : SettlePurpose} {st : StationState} {absent : State → State}
    (handed : ∀ u, Kept s u → Kept s (absent u)) : Kept s (t.settle why st absent) :=
  ite (handed _ h.modStation) (h.frame rfl)

theorem keepReading (h : Kept s t) {r : Option Nat} : Kept s (t.keepReading r) := by
  cases r
  · exact h
  · exact h.modTin

theorem issueManual (h : Kept s t) {deficit : Bool} : Kept s (t.issueManual deficit) := by
  unfold State.issueManual
  split
  · exact h
  · dsimp only
    split
    · split
      · exact h.notify.goto
      · exact h.drawn.notify.goto
    · exact h.notify.goto

theorem startPhase (h : Kept s t) {start : Option Nat} : Kept s (t.startPhase start) := by
  unfold State.startPhase
  split
  · exact h
  · rename_i c _
    have started := ite (c := c.phase = .topup) (h.modCur (f := fun c => { c with start := start }))
      ((h.modCur (f := fun c => { c with start := start })).modTin (f := fun x => { x with entryStart := start }))
    exact ite started.issueManual.changeOrder started.strokeCheck

theorem phaseReading (h : Kept s t) {r : Option Nat} : Kept s (t.phaseReading r) :=
  h.keepReading.modStation.startPhase

theorem settlePhase (h : Kept s t) : Kept s t.settlePhase := h.settle fun _ g => g.phaseReading

theorem beginPhase (h : Kept s t) : Kept s t.beginPhase := ite h.settlePhase h.startPhase

theorem recheck (h : Kept s t) : Kept s t.recheck := by
  unfold State.recheck
  split
  · exact h
  · split
    · exact ite h.settlePhase h.strokeCheck
    · exact h

theorem beginMove (h : Kept s t) {p : Position} : Kept s (t.beginMove p) :=
  ite h.fault (ite h.beginPhase (h.frame rfl))

/-! ## The serving of entries -/

theorem serveEntry (h : Kept s t) {i : Nat} : Kept s (t.serveEntry i) := by
  unfold State.serveEntry
  split
  · exact h
  · refine ite h.fault (ite h.modEntry.modStation.beginPhase ?_)
    split
    · exact h.modEntry.modStation.beginMove
    · exact h

theorem offerTin (h : Kept s t) : Kept s t.offerTin := by
  unfold State.offerTin
  dsimp only
  split
  · exact h.modStation
  · exact ite (h.frame rfl) (h.modStation.modLidder (by rfl))

theorem completeRound (h : Kept s t) : Kept s t.completeRound := (h.modOrder (by intro; rfl)).changeOrder.offerTin

theorem holdAt (h : Kept s t) {r : ResumePoint} : Kept s (t.holdAt r) := h.modStation

theorem planFault (h : Kept s t) {f : PlanFailure} : Kept s (t.planFault f) := h.modStation.fault

theorem serveReady (h : Kept s t) : Kept s t.serveReady := by
  unfold State.serveReady
  split
  · exact h.completeRound
  · exact h.serveEntry

theorem serveNext (h : Kept s t) : Kept s t.serveNext := by
  obtain ⟨u, rfl, complete | ⟨-, wait⟩ | ⟨-, f, fault⟩ | ⟨-, o, p, q, n, -, -, -, ready⟩⟩ := t.serveNext_cases
  · rw [complete]
    exact h.modPlan.completeRound
  · rw [wait]
    exact h.modPlan.holdAt
  · rw [fault]
    exact h.modPlan.planFault
  · rw [ready]
    exact h.modPlan.modStation.serveReady

/-! ## Top-ups and verdicts -/

theorem shotDone (h : Kept s t) {v : Verdict} {judged : Option Nat} : Kept s (t.shotDone v judged) := by
  unfold State.shotDone
  split
  · exact h
  · exact h.notify

theorem commandTopUp (h : Kept s t) : Kept s t.commandTopUp := by
  unfold State.commandTopUp
  split
  · exact h
  · split
    · dsimp only
      refine ite (ite ?_ ?_) ?_
      · exact (ite h.modEntry.modPlan h.modEntry).modStation.modCur.setEntry.shotDone.serveNext
      · exact (ite h.modEntry.modPlan h.modEntry).modStation.modCur.setEntry.fault
      · exact (ite h.modEntry.modPlan h.modEntry).modStation.modCur.beginPhase
    · exact h

theorem endReading (h : Kept s t) {r : Option Nat} : Kept s (t.endReading r) := by
  cases r with
  | none => exact h.modStation (f := fun st => { st with freshNeeded := true })
  | some => exact h.modTin

theorem addMass (h : Kept s t) {i : Nat} {inc : Option Nat} : Kept s (t.addMass i inc) := by
  cases inc with
  | none => exact h
  | some => exact h.modCur.modEntry

theorem judge (h : Kept s t) {r : Option Nat} : Kept s (t.judge r) := by
  unfold State.judge
  split
  · exact h
  · dsimp only
    refine ite h.endReading.setFlag.addMass.shotDone.setEntry.enterClearing ?_
    split
    · exact h.endReading.setFlag.addMass.shotDone.setEntry.serveNext
    · exact h.endReading.setFlag.addMass.shotDone.commandTopUp
    · exact h.endReading.setFlag.addMass.shotDone.setEntry.fault

theorem judgeManual (h : Kept s t) {r : Option Nat} : Kept s (t.judgeManual r) := by
  unfold State.judgeManual
  split
  · exact h
  · dsimp only
    refine ite h.endReading.modCur.modEntry.setEntry.fault ?_
    split
    · exact h.endReading.modCur.modEntry.shotDone.issueManual
    · exact h.endReading.modCur.modEntry.shotDone.setEntry.fault
    all_goals exact h.endReading.modCur.modEntry.shotDone.setEntry.setFlag.serveNext

theorem verdictReading (h : Kept s t) {r : Option Nat} : Kept s (t.verdictReading r) := by
  unfold State.verdictReading
  split
  · exact h
  · exact ite h.judgeManual h.judge

theorem settleVerdict (h : Kept s t) : Kept s t.settleVerdict := h.settle fun _ g => g.verdictReading

/-! ## The active plan, and the readings handed to the station -/

theorem planTin (h : Kept s t) : Kept s t.planTin := by
  unfold State.planTin
  split
  · exact h
  · dsimp only
    split
    · exact h.drawnInMotion.planFault
    · exact (h.drawnInMotion.modStation.modOrder (by intro; rfl)).serveNext

theorem tareReading (h : Kept s t) {r : Option Nat} : Kept s (t.tareReading r) :=
  h.modTin.modStation.changeOrder.goto.planTin

theorem settleTare (h : Kept s t) : Kept s t.settleTare := h.settle fun _ g => g.tareReading

theorem handReading (h : Kept s t) {r : Option Nat} : Kept s (t.handReading r) := by
  unfold State.handReading
  split
  · exact h.tareReading
  · exact h.phaseReading
  · exact h.verdictReading

theorem settleAbsent (h : Kept s t) : Kept s t.settleAbsent := h.abandonSettle.handReading

/-! ## Homing and resumption -/

theorem needReading (h : Kept s t) : Kept s t.needReading := h.modStation

theorem rework (h : Kept s t) {i : Nat} {served : Bool} {go : State → State}
    (goes : ∀ u, Kept s u → Kept s (go u)) : Kept s (t.rework i served go) := by
  rcases t.rework_cases i served go with same | ⟨-, on⟩ | ⟨-, f, fault⟩ | ⟨-, q, on | next⟩
  · rwa [same]
  · rw [on]
    exact goes _ h
  · rw [fault]
    exact h.planFault
  · rw [on]
    exact goes _ h.modStation
  · rw [next]
    exact h.modStation.needReading.serveNext

theorem serveAgain (h : Kept s t) {i : Nat} : Kept s (t.serveAgain i) :=
  h.rework fun _ g => serveEntry (ite g.modEntry.needReading g)

theorem stationHomed (h : Kept s t) {ok : Bool} : Kept s (t.stationHomed ok) := by
  unfold State.stationHomed
  refine ite ?_ h
  dsimp only
  split
  · exact h.modStation
  · exact ite (ite h.modStation.serveAgain h.modStation.holdAt) h.modStation.fault

/-- A line with a pending request is not STOPPED, so the mode that a pending RUN sets leaves no latch behind (R144). -/
theorem homingEnds (h : Kept s t) {ok : Bool} : Kept s (t.homingEnds ok) := by
  refine stationHomed ?_
  split
  · rename_i pending
    refine h.setMode (fun inv stopped => ?_) (by decide)
    simp [inv.2.1 stopped] at pending
  · exact h

theorem homed (h : Kept s t) : Kept s t.homed := by
  unfold State.homed
  refine homingEnds ?_
  exact h.frame rfl

theorem askHoming (h : Kept s t) : Kept s t.askHoming := by
  unfold State.askHoming
  split
  · exact h.homingEnds
  · exact h
  · exact h.homingEnds
  all_goals exact ite h.homed (h.frame rfl)

theorem resumeAt (h : Kept s t) {r : ResumePoint} : Kept s (t.resumeAt r) := by
  unfold State.resumeAt
  dsimp only
  split
  · exact h.modStation.serveNext
  · exact h.modStation.settleTare
  · exact h.modStation.settlePhase
  · exact h.modStation.recheck
  · exact h.modStation.settleVerdict
  · exact h.modStation.issueManual
  · exact h.modStation.modStation.askHoming
  · exact h.modStation.commandTopUp
  · split
    · exact h.modStation.serveEntry
    · exact h.modStation

theorem beginOrHold (h : Kept s t) {r : ResumePoint} : Kept s (t.beginOrHold r) := ite h.resumeAt h.holdAt

theorem retryPartial (h : Kept s t) : Kept s t.retryPartial := by
  unfold State.retryPartial
  split
  · exact h
  · exact h.rework fun _ g => g.modEntry.needReading.modCur.beginOrHold

theorem retryVerdict (h : Kept s t) : Kept s t.retryVerdict := by
  unfold State.retryVerdict
  split
  · exact h
  · exact h.rework fun _ g => g.beginOrHold

theorem reportPosition (h : Kept s t) {p : Position} : Kept s (t.reportPosition p) := ite h.recheck h

end Kept

end Sys2Proof.Machine
end

section
/-! The operations on tins keep the invariants: binding, arrivals, the ends of transfers, clearing, bays and lidder. -/

namespace Sys2Proof.Machine

namespace Kept

variable {s t u : State}

/-! ## Binding and arrivals -/

theorem modIntake (h : Kept s t) {f : Intake → Intake} : Kept s (t.modIntake f) := h.frame rfl

theorem setIntakeRequest (h : Kept s t) {r : Bool} : Kept s (t.setIntakeRequest r) := h.frame rfl

theorem setSlot (h : Kept s t) {n : Option Nat} : Kept s (t.setSlot n) := h.frame rfl

theorem bindOrder (h : Kept s t) {n : Nat} {slot : Bool} : Kept s (t.bindOrder n slot) :=
  (ite (h.assignTin.modOrder (by intro; rfl)).setSlot (h.assignTin.modOrder (by intro; rfl))).changeOrder.modIntake
    |>.setIntakeRequest

theorem attemptBinding (h : Kept s t) : Kept s t.attemptBinding := by
  unfold State.attemptBinding
  split
  · exact h.bindOrder
  · exact h.modIntake.notify

theorem retryBinding (h : Kept s t) : Kept s t.retryBinding := by
  unfold State.retryBinding
  refine ite ?_ h
  split
  · exact h.bindOrder
  · exact h

theorem takeTin (h : Kept s t) : Kept s t.takeTin := ite h.attemptBinding h.modIntake

theorem returnBound (h : Kept s t) {n : Nat} : Kept s (t.returnBound n) := by
  unfold State.returnBound
  split
  · exact h
  · exact ite (ite (h.modOrder (by intro; rfl)).setSlot.changeOrder (h.modOrder (by intro; rfl)).changeOrder)
      (h.modOrder (by intro; rfl)).changeOrder

theorem liftIntake (h : Kept s t) : Kept s t.liftIntake := by
  unfold State.liftIntake
  dsimp only
  split
  · exact h.returnBound.setIntakeRequest.modIntake
  · exact h.modIntake

theorem stationArrival (h : Kept s t) : Kept s t.stationArrival := by
  unfold State.stationArrival
  split
  · exact h
  · exact ite h.enterClearing (ite h.modStation
      (ite h.modStation.fault (ite h.modStation.modStation.changeOrder.offerTin h.modStation.settleTare)))

theorem bayArrival (h : Kept s t) {b : BayId} {x : Transfer} : Kept s (t.bayArrival b x) := h.modBay.changeOrder

theorem lidDone (h : Kept s t) {n : Nat} : Kept s (t.lidDone n) := h.modOrder (by intro; rfl)

theorem dischargeWait (h : Kept s t) : Kept s t.dischargeWait := h.frame rfl

theorem lidderArrival (h : Kept s t) {x : Transfer} : Kept s (t.lidderArrival x) := by
  unfold State.lidderArrival
  split
  · exact h
  · exact ite ((h.modLidder (by rfl)).changeOrder.modLidder (by rfl))
      (h.modLidder (by rfl)).changeOrder.lidDone.dischargeWait

theorem laneArrival (h : Kept s t) {l : Lane} {x : Transfer} : Kept s (t.laneArrival l x) :=
  h.modLane.changeOrder.notify

theorem handTin (h : Kept s t) {d : Dest} {x : Transfer} : Kept s (t.handTin d x) := by
  unfold State.handTin
  split
  · exact h.stationArrival
  · exact h.bayArrival
  · exact h.lidderArrival
  · split
    · exact h.laneArrival
    · exact h

/-! ## The ends of transfers -/

theorem tellSource (h : Kept s t) {x : Transfer} : Kept s (t.tellSource x) := by
  unfold State.tellSource
  refine ite ?_ h
  split
  · exact ite h.modStation h
  · exact ite (h.modLidder (by rfl)) h
  all_goals exact h

theorem endArrival (h : Kept s t) {d : Dest} {x : Transfer} : Kept s (t.endArrival d x) :=
  h.setRecord.handTin.tellSource

theorem setPresent (h : Kept s t) {d : Dest} {l : Option Lane} {p : Bool} : Kept s (t.setPresent d l p) := by
  unfold State.setPresent
  split
  · exact h.modStation
  · exact h.modBay
  · exact h.modLidder (by rfl)
  · split
    · exact h.modLane
    · exact h

theorem riseOnRecord (h : Kept s t) {d : Dest} {x : Transfer} : Kept s (t.riseOnRecord d x) := by
  unfold State.riseOnRecord
  split
  · exact h.endArrival
  all_goals exact h.setRecord

theorem jam (h : Kept s t) {d : Dest} {x : Transfer} : Kept s (t.jam d x) := h.setRecord.faultAtDest.tellSource

/-! ## Clearing of bays, lidder and lanes -/

theorem tick (h : Kept s t) : Kept s t.tick := h.frame rfl

theorem emptyBay (h : Kept s t) {b : BayId} : Kept s (t.emptyBay b) := h.modBay.tick

theorem liftBay (h : Kept s t) {b : BayId} : Kept s (t.liftBay b) := by
  refine emptyBay ?_
  split
  · exact h.reportLift
  · exact h

theorem clearBay (h : Kept s t) {b : BayId} : Kept s (t.clearBay b) :=
  ite (h.modBay.modLidder (by rfl)) (h.modBay.modLidder (by rfl)).liftBay

theorem liftLidder (h : Kept s t) : Kept s t.liftLidder := by
  refine modLidder ?_ (by rfl)
  split
  · exact h.reportLift
  · exact h

theorem clearLidder (h : Kept s t) : Kept s t.clearLidder := ite (h.frame rfl) (liftLidder (h.frame rfl))

theorem liftLane (h : Kept s t) {l : Lane} : Kept s (t.liftLane l) := by
  refine modLane ?_
  split
  · exact h.reportLift
  · exact h

theorem scrapTransfer (h : Kept s t) {d : Dest} {x : Transfer} : Kept s (t.scrapTransfer d x) := by
  unfold State.scrapTransfer
  dsimp only
  split
  · exact h.setRecord.tellSource.enterClearing
  · exact ite h.setRecord.tellSource.modBay.clearBay h.setRecord.tellSource.modBay.reportLift
  · exact (h.setRecord.tellSource.modLidder (by rfl)).clearLidder
  · split
    · exact h.setRecord.tellSource
    · exact ite h.setRecord.tellSource.modLane h.setRecord.tellSource.modLane.liftLane

/-! ## Bays and lidder -/

theorem bayFault (h : Kept s t) {b : BayId} {k : FaultKind} : Kept s (t.bayFault b k) := by
  unfold State.bayFault
  exact h.modBay.faultAtDest.modBay

theorem beginSpin (h : Kept s t) {b : BayId} : Kept s (t.beginSpin b) := ite h.modBay h.bayFault

theorem bayReady (h : Kept s t) {b : BayId} : Kept s (t.bayReady b) := by
  unfold State.bayReady
  exact h.modBay.setRoute.modLidder (by rfl)

theorem unclamp (h : Kept s t) {b : BayId} : Kept s (t.unclamp b) := ite h.modBay h.modBay.bayReady

theorem beginBay (h : Kept s t) {b : BayId} : Kept s (t.beginBay b) :=
  ite h.unclamp (ite h.bayFault (ite h.modBay.beginSpin h.modBay))

theorem brakeBay (h : Kept s t) {b : BayId} {c : BrakeCause} : Kept s (t.brakeBay b c) := h.modBay

theorem seatFault (h : Kept s t) : Kept s t.seatFault := h.faultAtDest.modLidder (by rfl)

/-- A magazine counted anew at no more than 80 lids (R135). -/
theorem withMagazine (h : Kept s t) {f : Lidder → Lidder} {cls : TinClass} {n : Nat}
    (counted : (f t.lidder).magazines = t.lidder.magazines.set cls n)
    (bound : (∀ c, t.lidder.magazines.count c ≤ 80) → n ≤ 80) : Kept s (t.modLidder f) := by
  refine h.trans ⟨⟨rfl, id, id, ?_⟩, id⟩
  rintro ⟨inUse, flash, saving, magazines⟩
  refine ⟨inUse, flash, saving, fun c => ?_⟩
  simp only [State.modLidder_lidder, counted, Magazines.count_set]
  split
  · exact bound magazines
  · exact magazines c

theorem beginPlacing (h : Kept s t) {empty : Bool} : Kept s (t.beginPlacing empty) := by
  unfold State.beginPlacing
  split
  · exact h
  · refine ite (h.modLidder (by rfl)).seatFault (ite ?_ ?_)
    · exact ite (h.withMagazine rfl fun _ => Nat.zero_le _) (h.withMagazine rfl fun _ => Nat.zero_le _).notify
    · exact h.withMagazine rfl fun magazines => (Nat.sub_le _ _).trans (magazines _)

theorem press (h : Kept s t) {again : Bool} : Kept s (t.press again) := h.modLidder (by rfl)

end Kept

end Sys2Proof.Machine
end

section
/-! Requests and their answers keep the invariants. -/

namespace Sys2Proof.Machine

namespace Kept

variable {s t u : State}

/-! ## Requests and replies -/

/-- A change of the link whose input queue stays within 4 requests. -/
theorem withLink (h : Kept s t) {l : Link} (bound : t.link.queue.length ≤ 4 → l.queue.length ≤ 4) :
    Kept s { t with link := l } :=
  h.trans ⟨⟨rfl, fun ⟨requests, notices⟩ => ⟨bound requests, notices⟩, id, id⟩, id⟩

theorem offer (h : Kept s t) {kind tag : Byte} {p : List Byte} (taken : t.offer kind tag p = some u) : Kept s u := by
  rw [State.offer_eq taken]
  refine h.withLink fun bound => ?_
  unfold State.offer at taken
  split at taken
  · split at taken
    · cases taken
      exact bound
    · cases taken
  · split at taken
    · rename_i room
      cases taken
      simpa [Config.inputQueueSize, Nat.lt_succ_iff] using room
    · cases taken

theorem settleReply {a : Answer} (h : Kept s a.state) {kind tag : Byte} : Kept s (a.settle kind tag) :=
  h.withLink fun bound => (putReply_length _ _).trans_le bound

/-- A request keeps what its owner's answer keeps. -/
theorem request (h : Kept s t) {kind tag : Byte} {p : List Byte} {owner : State → Answer}
    (owned : ∀ u, Kept s u → Kept s (owner u).state) : Kept s (t.request kind tag p owner) := by
  unfold State.request
  split
  · rename_i w taken
    exact settleReply (owned w (h.offer taken))
  · exact h

/-- A request without a payload keeps what its owner's answer keeps. -/
theorem bare (h : Kept s t) {p : List Byte} {owner : State → Answer} (owned : Kept s (owner t).state) :
    Kept s (t.bare p owner).state := by
  unfold State.bare
  split
  · exact owned
  · exact h

theorem answerIdent (h : Kept s t) {p : List Byte} : Kept s (t.answerIdent p).state := h.bare h

theorem answerStatus (h : Kept s t) {p : List Byte} : Kept s (t.answerStatus p).state := h.bare h.drawnInMotion

theorem takeStatus (h : Kept s t) {tag : Byte} {p : List Byte} : Kept s (t.takeStatus tag p) := by
  unfold State.takeStatus
  split
  · rename_i w taken
    have answered := settleReply (kind := 0x02) (tag := tag) (h.offer taken).answerStatus (a := w.answerStatus p)
    exact ite (answered.frame rfl) answered
  · exact h

/-! ## Reception and transmission -/

theorem receive (h : Kept s t) {bytes : List Byte} : Kept s (t.receive bytes) :=
  h.withLink (foldl_queueFrame_length _ _)

theorem dropGathered (h : Kept s t) : Kept s t.dropGathered := h.frame rfl

theorem endFrame (h : Kept s t) : Kept s t.endFrame := by
  unfold State.endFrame
  split
  · exact h
  · exact h.withLink fun bound => (List.length_tail ▸ Nat.sub_le _ _).trans bound
  · exact h.frame rfl

/-! ## The requests of the order book -/

/-- An order is admitted only into a book with room and under a number that no live order has (R1, R8). -/
theorem takeIn (h : Kept s t) {f : Submission} (unknown : t.order? f.number = none) (room : t.book.full = false) :
    Kept s (t.takeIn f) := by
  refine h.trans ⟨⟨rfl, id, ?_, id⟩, id⟩
  rintro ⟨-, nodup⟩
  have below : t.book.orders.length < 32 := by
    exact Nat.lt_of_not_le (of_decide_eq_false (Bool.or_eq_false_iff.mp room).1)
  have fresh : ∀ o ∈ t.book.orders, o.number ≠ f.number := by
    simpa [State.order?, List.find?_eq_none] using unknown
  constructor
  · simp [State.takeIn]
    omega
  · simp only [State.takeIn, List.map_append, List.map_cons, List.map_nil]
    refine nodup.append (List.nodup_singleton _) ?_
    simpa [Submission.record] using fresh

theorem answerSubmit (h : Kept s t) {p : List Byte} : Kept s (t.answerSubmit p).state := by
  unfold State.answerSubmit
  split
  · exact h
  split
  · exact h
  split
  · exact h
  rename_i unknown
  split
  · exact h
  rename_i room
  split
  · exact h
  · exact (h.takeIn (by simpa using unknown) (by simpa using room)).retryBinding

theorem answerPreview (h : Kept s t) {p : List Byte} : Kept s (t.answerPreview p).state := by
  unfold State.answerPreview
  dsimp only
  split
  · exact h
  split
  · exact h
  split
  · exact h
  split
  · exact h
  split
  · exact h.drawnInMotion
  · exact h.drawnInMotion

theorem answerQuery (h : Kept s t) {p : List Byte} : Kept s (t.answerQuery p).state := by
  unfold State.answerQuery
  split
  · exact h
  · exact h

theorem cancelAtIntake (h : Kept s t) {o : Order} : Kept s (t.cancelAtIntake o) :=
  ite h.freeOrder.setIntakeRequest.modIntake h.freeOrder.setIntakeRequest.modIntake.takeTin

theorem cancelAtStation (h : Kept s t) : Kept s t.cancelAtStation := by
  unfold State.cancelAtStation
  split
  · exact h
  · exact ite h.enterClearing h
  · exact h.enterClearing

theorem markCancelled (h : Kept s t) {n : Nat} : Kept s (t.markCancelled n) := h.setPendingEnd.notifyOrder

theorem cancelHeld (h : Kept s t) {n : Nat} {f : FaultRecord} : Kept s (t.cancelHeld n f) :=
  (ite h.setRecord h).unhold.setPendingEnd.enterClearing

theorem cancelOrder (h : Kept s t) {o : Order} (cancelled : t.cancelOrder o = .ok u) : Kept s u := by
  unfold State.cancelOrder at cancelled
  split at cancelled
  · cases cancelled
    exact h
  split at cancelled
  case h_5 =>
    split at cancelled
    · cases cancelled
      exact h.cancelAtIntake
    · cases cancelled
      exact h.markCancelled.cancelAtStation
  case h_8 =>
    split at cancelled
    · split at cancelled
      · cases cancelled
        exact h.cancelHeld
      · cases cancelled
    · cases cancelled
  case h_6 | h_7 =>
    cases cancelled
    exact h.markCancelled.cancelAtStation
  all_goals cases cancelled
  all_goals exact h.freeOrder

theorem answerCancel (h : Kept s t) {p : List Byte} : Kept s (t.answerCancel p).state := by
  unfold State.answerCancel
  split
  · exact h
  split
  · rename_i cancelled
    exact h.cancelOrder cancelled
  · exact h

theorem enterSlot (h : Kept s t) {n : Nat} : Kept s (t.enterSlot n) := h.setSlot.changeOrder.retryBinding

theorem answerCorrect (h : Kept s t) {p : List Byte} : Kept s (t.answerCorrect p).state := by
  unfold State.answerCorrect
  dsimp only
  split
  · exact h
  split
  · exact h
  split
  · exact h
  split
  · exact h
  split
  · exact h
  · exact (h.modOrder (by intro; rfl)).enterSlot

theorem answerApprove (h : Kept s t) {p : List Byte} : Kept s (t.answerApprove p).state := by
  unfold State.answerApprove
  split
  · exact h
  split
  · exact h
  · exact (h.modOrder (by intro; rfl)).enterSlot

theorem answerResume (h : Kept s t) {p : List Byte} : Kept s (t.answerResume p).state := by
  unfold State.answerResume
  split
  · exact h
  split
  · exact h
  split
  · exact h
  · exact h.enterSlot

/-! ## RESOLVE and the answers to a manual step -/

/-- RESOLVE keeps what its action keeps. -/
theorem answerResolve (h : Kept s t) {a : Action} {act : Order → FaultRecord → State → State} {p : List Byte}
    (acts : ∀ o f u, Kept s u → Kept s (act o f u)) : Kept s (t.answerResolve a act p).state := by
  unfold State.answerResolve
  split
  · exact h
  · exact acts _ _ _ h.unhold

theorem actRetryShot (h : Kept s t) {o : Order} {f : FaultRecord} : Kept s (t.actRetryShot o f) :=
  ite h.setEntry.needReading.beginOrHold h.retryPartial

theorem actSkipShot (h : Kept s t) {o : Order} {f : FaultRecord} : Kept s (t.actSkipShot o f) := h.setEntry.serveNext

theorem actAccept (h : Kept s t) {o : Order} {f : FaultRecord} : Kept s (t.actAccept o f) :=
  (ite h.setEntry.setFlag h.setEntry).serveNext

/-- What an action begins at the station is kept, and so is the clearing it gives way to. -/
theorem unlessEnded (h : Kept s t) {o : Order} {begin : State → State} (begun : Kept s (begin t)) :
    Kept s (t.unlessEnded o begin) :=
  ite h.enterClearing begun

theorem retryStation (h : Kept s t) {o : Order} {f : FaultRecord} : Kept s (t.retryStation o f) := by
  refine ite (h.unlessEnded ?_) h.beginOrHold
  split
  · exact h.retryPartial
  · exact h.retryVerdict
  · exact h.beginOrHold
  · exact h

theorem retryTransfer (h : Kept s t) {d : Dest} : Kept s (t.retryTransfer d) := by
  unfold State.retryTransfer
  split
  · exact ite h.endArrival h.setRecord
  · exact h

theorem actRetry (h : Kept s t) {o : Order} {f : FaultRecord} : Kept s (t.actRetry o f) := by
  refine ite h.retryTransfer ?_
  split
  · exact h.retryStation
  · exact h.modBay
  · exact h.modLidder (by rfl)
  · exact h

theorem actConfirm (h : Kept s t) {o : Order} {f : FaultRecord} : Kept s (t.actConfirm o f) := by
  unfold State.actConfirm
  split
  · exact h.endArrival
  · exact h

theorem actPass (h : Kept s t) {o : Order} {f : FaultRecord} : Kept s (t.actPass o f) := h.lidDone.dischargeWait

theorem actScrap (h : Kept s t) {o : Order} {f : FaultRecord} : Kept s (t.actScrap o f) := by
  unfold State.actScrap
  refine ite ?_ ?_
  · split
    · exact h.setPendingEnd.scrapTransfer
    · exact h.setPendingEnd
  · split
    · exact h.setPendingEnd.enterClearing
    · exact h.setPendingEnd.clearBay
    · exact h.setPendingEnd.clearLidder
    · exact h.setPendingEnd

theorem actRemake (h : Kept s t) {o : Order} {f : FaultRecord} : Kept s (t.actRemake o f) :=
  h.unlessEnded (h.modOrder (by intro; rfl)).modStation.changeOrder

theorem actCancel (h : Kept s t) {o : Order} {f : FaultRecord} : Kept s (t.actCancel o f) :=
  h.setPendingEnd.enterClearing

theorem actRelease (h : Kept s t) {o : Order} {f : FaultRecord} : Kept s (t.actRelease o f) :=
  h.freeOrder.modStation.enterClearing

theorem answerRelease (h : Kept s t) {p : List Byte} : Kept s (t.answerRelease p).state := by
  unfold State.answerRelease
  split
  · split
    · exact h.freeOrder
    · exact h.answerResolve fun _ _ _ g => g.actRelease
  · exact h.answerResolve fun _ _ _ g => g.actRelease

theorem answerManualDone (h : Kept s t) {p : List Byte} : Kept s (t.answerManualDone p).state := by
  unfold State.answerManualDone
  dsimp only
  split
  · exact h
  · exact h.modCur.settleVerdict

theorem answerManualSkip (h : Kept s t) {p : List Byte} : Kept s (t.answerManualSkip p).state := by
  unfold State.answerManualSkip
  dsimp only
  split
  · exact h
  · exact h.setEntry.setFlag.serveNext

end Kept

end Sys2Proof.Machine
end

section
/-! The line mode unit and the e-stop chain keep the invariants. -/

namespace Sys2Proof.Machine

namespace Kept

variable {s t u : State}

/-! ## The line mode unit -/

theorem answerRun (h : Kept s t) {p : List Byte} : Kept s (t.answerRun p).state := by
  refine h.bare ?_
  split
  · rename_i paused _
    split
    · exact h.setMode (by simp [paused]) (by decide)
    · exact (h.setPendingMode (by simp [paused])).askHoming
  · exact h
  · rename_i service
    exact (h.setMode (by simp [service]) (by decide)).askHoming
  · rename_i running _
    exact h.setPendingMode (by simp [running])
  · exact h
  · exact h

theorem completePause (h : Kept s t) : Kept s t.completePause := by
  unfold State.completePause
  split
  · rename_i complete
    exact h.setMode (by simp [complete.1]) (by decide)
  · exact h

theorem answerPause (h : Kept s t) {p : List Byte} : Kept s (t.answerPause p).state := by
  refine h.bare ?_
  split
  · exact h
  · rename_i running _
    exact (h.setPendingMode (by simp [running])).holdWaiting.completePause
  · rename_i paused
    exact h.setPendingMode (by simp [paused])
  · rename_i service
    exact (h.setMode (by simp [service]) (by decide)).askHoming
  · exact h

theorem unhome (h : Kept s t) : Kept s t.unhome := h.frame rfl

theorem answerService (h : Kept s t) {p : List Byte} : Kept s (t.answerService p).state := by
  refine h.bare ?_
  split
  · rename_i allowed
    have paused : t.line.mode = .paused := by
      simp [State.serviceAllowed] at allowed
      tauto
    exact (h.setMode (by simp [paused]) (by decide)).unhome
  · exact h

/-- The latch goes with STOPPED, and only once the chain is closed (R149). -/
theorem answerStopReset (h : Kept s t) {p : List Byte} : Kept s (t.answerStopReset p).state := by
  refine h.bare ?_
  split
  · rename_i reset
    have closed : t.line.chainOpen = false := by simpa using reset.2
    have unlatched : Kept s { t with
        line := { mode := .paused, pendingMode := none, latch := false, chainOpen := false } } :=
      h.trans ⟨⟨rfl, id, id, id⟩, fun _ => by simp [State.LineInv]⟩
    simp only [State.setMode, reset.1, closed]
    exact unlatched.notify
  · exact h

theorem loseTin (h : Kept s t) {n : Nat} : Kept s (t.loseTin n) := by
  unfold State.loseTin
  split
  · exact h
  split
  · exact h.reportLift
  · exact (h.modOrder (by intro; rfl)).changeOrder
  · exact (h.modOrder (by intro; rfl)).changeOrder

/-- An operation on one order after another keeps what the operation keeps. -/
theorem foldl_order (h : Kept s t) {f : State → Order → State} (each : ∀ u o, Kept s u → Kept s (f u o))
    {os : List Order} : Kept s (os.foldl f t) := by
  induction os generalizing t with
  | nil => exact h
  | cons o rest ih => exact ih (each t o h)

theorem clearStations (h : Kept s t) : Kept s t.clearStations := h.frame rfl

theorem answerClearLine (h : Kept s t) {p : List Byte} : Kept s (t.answerClearLine p).state := by
  refine h.bare ?_
  split
  · exact h
  · exact h
  all_goals exact (h.foldl_order fun _ _ g => g.loseTin).clearStations

/-! ## The e-stop chain -/

theorem haltStation (h : Kept s t) {i : Option Nat} {r : ResumePoint} : Kept s (t.haltStation i r) := h.raise.modStation

theorem stopStation (h : Kept s t) {count : Option Nat} : Kept s (t.stopStation count) := by
  unfold State.stopStation
  split
  case h_4 =>
    dsimp only
    split
    · exact h.endStroke.setEntry.haltStation
    · exact h.endStroke.haltStation
  case h_5 | h_6 =>
    refine ite h.abandonSettle.haltStation ?_
    split
    · exact (ite h.abandonSettle h.abandonSettle.setEntry).haltStation
    · exact h.abandonSettle.haltStation
  case h_1 => exact h.abandonSettle.haltStation
  case h_2 | h_3 | h_7 | h_8 => exact h.haltStation
  all_goals exact h

theorem stopTransfer (h : Kept s t) {d : Dest} : Kept s (t.stopTransfer d) := by
  unfold State.stopTransfer
  split
  · exact ite h.setRecord.faultAtDest h
  · exact h

theorem stopBay (h : Kept s t) {b : BayId} : Kept s (t.stopBay b) := ite h h.modBay.faultAtDest

theorem stopLidder (h : Kept s t) : Kept s t.stopLidder := by
  refine ite (h.modLidder ?_).faultAtDest h
  unfold Lidder.halted
  split <;> rfl

theorem stopUnit (h : Kept s t) {count : Option Nat} {x : StopUnit} : Kept s (t.stopUnit count x) := by
  cases x with
  | station => exact h.stopStation
  | transfer d => exact h.stopTransfer
  | bay b => exact h.stopBay
  | lidder => exact h.stopLidder

/-- The notice queue of an earlier state put back. -/
theorem withNoticesOf (h : Kept s t) (g : Kept s u) : Kept s { u with notices := t.notices } :=
  ⟨⟨g.pending, fun inv => ⟨(g.queues inv).1, (h.queues inv).2⟩, g.book, g.tables⟩, g.line⟩

theorem gatherStops (h : Kept s t) {count : Option Nat} {us : List StopUnit} : Kept s (t.gatherStops count us).1 := by
  induction us generalizing t with
  | nil => exact h
  | cons x rest ih =>
    have emptied : Kept s { t with notices := [] } := h.withNotices fun _ => Nat.zero_le _
    exact ih (h.withNoticesOf emptied.stopUnit)

theorem appendAnyOrder (h : Kept s t) {fuel : Nat} {ls : List (List NoticeBody)} :
    Kept s (t.appendAnyOrder fuel ls) := by
  induction fuel generalizing t ls with
  | zero => exact h
  | succ n ih =>
    unfold State.appendAnyOrder
    split
    · exact h
    · exact h.foldl_notify
    · dsimp only
      split
      · exact ih h.drawn.notify
      · exact h

theorem stopBlocks (h : Kept s t) {count : Option Nat} {travelled : Nat} : Kept s (t.stopBlocks count travelled) := by
  have stopped : Kept s { t with positioner := t.positioner.stopped travelled } := h.frame rfl
  unfold State.stopBlocks
  exact (stopped.gatherStops (count := count) (us := stopUnits)).appendAnyOrder

theorem openChain_bounds (h : BoundsKept s t) {count : Option Nat} {travelled : Nat} :
    BoundsKept s (t.openChain count travelled) := by
  unfold State.openChain
  split
  · exact h.trans ⟨rfl, id, id, id⟩
  · refine BoundsKept.trans ?_ (refl _).notify.notify.stopBlocks.toBoundsKept
    exact h.trans ⟨rfl, id, id, id⟩

/-- The opening of the chain sets the latch and leaves STOPPED without a pending request, whatever the chain and the
latch showed before (R148, R156). -/
theorem lineInv_openChain {count : Option Nat} {travelled : Nat}
    (pending : t.line.mode = .stopped → t.line.pendingMode = none) : (t.openChain count travelled).LineInv := by
  unfold State.openChain
  split
  · rename_i already
    simp [State.LineInv, already, pending already]
  · refine (refl _).notify.notify.stopBlocks.line ?_
    simp [State.LineInv]

theorem openChain (h : Kept s t) {count : Option Nat} {travelled : Nat} : Kept s (t.openChain count travelled) :=
  ⟨openChain_bounds h.toBoundsKept, fun inv => lineInv_openChain (h.line inv).2.1⟩

theorem closeChain (h : Kept s t) : Kept s { t with line := { t.line with chainOpen := false } } :=
  h.trans ⟨⟨rfl, id, id, id⟩, fun ⟨latch, pending, _⟩ => ⟨latch, pending, by simp⟩⟩

end Kept

end Sys2Proof.Machine
end

section
/-! The events of the line, the station and the carousel, and the requests of the tables, keep the invariants. -/

namespace Sys2Proof.Machine

namespace Kept

variable {s t u : State}

/-! ## The events of the intake, the conveyor, the bays, the lidder and the outlet -/

theorem placeTin (h : Kept s t) {cls : TinClass} {lidded : Bool} : Kept s (t.placeTin cls lidded) :=
  ite (ite h.liftIntake h).modIntake.modIntake.notify (ite h.liftIntake h).modIntake.takeTin

theorem bindRetry (h : Kept s t) : Kept s t.bindRetry := ite h.attemptBinding h.retryBinding

theorem startIntake (h : Kept s t) : Kept s t.startIntake := by
  unfold State.startIntake
  split
  · exact ite h.setRecord.modStation.setIntakeRequest.modIntake h
  · exact h

theorem sendTin (h : Kept s t) : Kept s t.sendTin := h.frame rfl

theorem startStation (h : Kept s t) : Kept s t.startStation := by
  unfold State.startStation
  refine ite ?_ h
  dsimp only
  split
  · exact h.setRecord.modBay.sendTin
  · exact h

theorem startLidder (h : Kept s t) : Kept s t.startLidder := by
  unfold State.startLidder
  refine ite ?_ h
  split
  · exact h.frame rfl
  · exact h

theorem startTransfer (h : Kept s t) {r : TransferRequest} : Kept s (t.startTransfer r) := by
  cases r with
  | intake => exact h.startIntake
  | station => exact h.startStation
  | lidder => exact h.startLidder

theorem arrive (h : Kept s t) {d : Dest} {cls : TinClass} {lidded : Bool} : Kept s (t.arrive d cls lidded) := by
  unfold State.arrive
  split
  · exact ite (ite h.modStation h).setPresent.endArrival h
  · exact h

theorem expireTransfer (h : Kept s t) {d : Dest} : Kept s (t.expireTransfer d) := by
  unfold State.expireTransfer
  split
  · exact ite h.jam h
  · exact h

theorem bayRise (h : Kept s t) {b : BayId} : Kept s (t.bayRise b) := by
  unfold State.bayRise
  dsimp only
  split
  · exact h.modBay.riseOnRecord
  · exact h.modBay

theorem bayFall (h : Kept s t) {b : BayId} : Kept s (t.bayFall b) := by
  unfold State.bayFall
  dsimp only
  split
  · exact h.modBay.brakeBay
  · exact h.modBay.liftBay
  all_goals exact h.modBay

theorem whenBay (h : Kept s t) {b : BayId} {st : BayState} {f : State → State} (effect : Kept s (f t)) :
    Kept s (t.whenBay b st f) :=
  ite effect h

theorem clampFall (h : Kept s t) {b : BayId} : Kept s (t.clampFall b) := by
  unfold State.clampFall
  dsimp only
  split
  · exact h.modBay.brakeBay
  · exact h.modBay.bayReady
  all_goals exact h.modBay

theorem endBrake (h : Kept s t) {b : BayId} : Kept s (t.endBrake b) := by
  unfold State.endBrake
  split
  · exact h.unclamp
  · exact h.bayFault
  · exact h.bayFault
  · exact h

theorem brakeEnds (h : Kept s t) {b : BayId} : Kept s (t.brakeEnds b) := by
  unfold State.brakeEnds
  split
  · exact h.endBrake
  · exact h.modBay
  · exact h.modBay
  all_goals exact h

theorem reserveLidder (h : Kept s t) {x : Transfer} : Kept s (t.reserveLidder x) := h.setRecord.modLidder (by rfl)

theorem takeSource (h : Kept s t) : Kept s t.takeSource := by
  unfold State.takeSource
  refine ite ?_ h
  split
  · split
    · exact h.reserveLidder.emptyBay
    · exact h
  · exact h.reserveLidder.sendTin
  · exact h

theorem beginLidder (h : Kept s t) {empty : Bool} : Kept s (t.beginLidder empty) := by
  unfold State.beginLidder
  refine ite ?_ h
  split
  · exact h.beginPlacing
  · exact h.press
  · exact ite h.beginPlacing h
  · exact h

theorem whenLidder (h : Kept s t) {st : LidderState} {f : State → State} (effect : Kept s (f t)) :
    Kept s (t.whenLidder st f) :=
  ite effect h

theorem checkSeat (h : Kept s t) {seated : Bool} : Kept s (t.checkSeat seated) :=
  ite h.setFlag.lidDone.dischargeWait (ite h.seatFault h.press)

theorem lidderRise (h : Kept s t) : Kept s t.lidderRise := by
  have present : Kept s (t.modLidder fun l => { l with present := true }) := h.modLidder rfl
  unfold State.lidderRise
  dsimp only
  split
  · exact present.riseOnRecord
  · exact present

theorem laneRise (h : Kept s t) {l : Lane} : Kept s (t.laneRise l) := by
  unfold State.laneRise
  dsimp only
  split
  · exact ite h.modLane.riseOnRecord h.modLane
  · exact h.modLane

theorem collect (h : Kept s t) {n : Nat} : Kept s (t.collect n) := h.freeOrder

theorem liftCheck (h : Kept s t) {n : Nat} : Kept s (t.liftCheck n) :=
  ite (h.modOrder (by intro; rfl)).retryBinding (h.modOrder (by intro; rfl))

theorem laneFall (h : Kept s t) {l : Lane} : Kept s (t.laneFall l) := by
  unfold State.laneFall
  dsimp only
  split
  · exact h.modLane.collect.modLane
  · exact h.modLane.modLane.liftCheck
  · exact h.modLane.modLane
  · exact h.modLane.modLane
  · exact h.modLane.liftLane
  all_goals exact h.modLane

/-! ## The events of the station, the weigh cell, the carousel and the pump -/

theorem placeRemake (h : Kept s t) : Kept s t.placeRemake := by
  unfold State.placeRemake
  split
  · exact h
  · exact ite h.notify (ite h.notify h.assignTin.modStation.settleTare)

theorem stationRise (h : Kept s t) {cls : TinClass} {lidded : Bool} : Kept s (t.stationRise cls lidded) := by
  unfold State.stationRise State.readTin
  dsimp only
  split
  · exact h.modStation.modStation.riseOnRecord
  split
  · exact ite h.modStation.modStation.stationArrival h.modStation.modStation
  · exact h.modStation.modStation.placeRemake
  · exact h.modStation.modStation

theorem stationFall (h : Kept s t) : Kept s t.stationFall :=
  ite h.modStation.settleAbsent (ite h.modStation.liftCleared h.modStation)

theorem resumeStation (h : Kept s t) : Kept s t.resumeStation := by
  unfold State.resumeStation
  refine ite ?_ h
  split
  · exact h.resumeAt
  · exact h

theorem withWeigh (h : Kept s t) {w : WeighCell} : Kept s { t with weigh := w } := h.frame rfl

theorem settleReading (h : Kept s t) : Kept s t.settleReading := ite h.withWeigh.handReading h

theorem scaleFault (h : Kept s t) {asserted : Bool} : Kept s (t.scaleFault asserted) :=
  ite h.withWeigh.settleAbsent h.withWeigh

theorem moveResult (h : Kept s t) {arrived : Bool} : Kept s (t.moveResult arrived) := ite (ite h.beginPhase h.fault) h

theorem withPositioner (h : Kept s t) {p : Positioner} : Kept s { t with positioner := p } := h.frame rfl

theorem moveArrived (h : Kept s t) : Kept s t.moveArrived := by
  unfold State.moveArrived
  split
  · exact h.withPositioner.moveResult
  · exact h

theorem moveExpires (h : Kept s t) {travelled : Nat} : Kept s (t.moveExpires travelled) :=
  ite h.withPositioner.moveResult h

theorem homePass (h : Kept s t) {onMark : Bool} {count : Option Nat} : Kept s (t.homePass onMark count) :=
  ite h.withPositioner.haltStroke h.withPositioner

theorem homingDone (h : Kept s t) : Kept s t.homingDone := ite h.withPositioner.homed h

theorem homingExpires (h : Kept s t) : Kept s t.homingExpires := ite h.withPositioner.homingEnds h

theorem pumpDone (h : Kept s t) {count : Option Nat} : Kept s (t.pumpDone count) := by
  unfold State.pumpDone
  refine ite ?_ h
  split
  · exact h
  · exact ite h.endStroke.settleVerdict h.endStroke.strokeCheck

theorem unseat (h : Kept s t) {p : Position} {count : Option Nat} : Kept s (t.unseat p count) := by
  have unseated : Kept s (t.modCanister p fun c => { c with seated := false }) := h.modCanister id
  exact ite (ite unseated.notify unseated).haltStroke (ite unseated.notify unseated)

theorem reseat (h : Kept s t) {p : Position} : Kept s (t.reseat p) := by
  have seated : Kept s (t.modCanister p fun c => { c with seated := true }) := h.modCanister id
  exact ite seated.reportPosition seated

/-! ## The requests of the tables, the lids, the settings and the flash store -/

theorem changePosition (h : Kept s t) {p : Position} {c : Canister} (within : t.canisters[p].Within → c.Within) :
    Kept s (t.changePosition p c) :=
  ite (h.modCanister within) (h.modCanister within).reportPosition

theorem answerCanisterSet (h : Kept s t) {p : List Byte} : Kept s (t.answerCanisterSet p).state := by
  unfold State.answerCanisterSet
  split
  · exact h
  split
  · exact h
  split
  · exact h
  split
  · exact h
  · exact h.changePosition fun _ _ => Nat.min_le_right _ _

theorem answerCanisterQuery (h : Kept s t) {p : List Byte} : Kept s (t.answerCanisterQuery p).state := by
  unfold State.answerCanisterQuery
  split
  · exact h
  split
  · exact h
  · exact h

theorem answerRefill (h : Kept s t) {p : List Byte} : Kept s (t.answerRefill p).state := by
  unfold State.answerRefill
  split
  · exact h
  dsimp only
  split
  · exact h
  split
  · exact h
  split
  · exact h
  · exact h.changePosition fun _ _ => Nat.min_le_right _ _

theorem answerCanisterClear (h : Kept s t) {p : List Byte} : Kept s (t.answerCanisterClear p).state := by
  unfold State.answerCanisterClear
  split
  · exact h
  split
  · exact h
  split
  · exact h
  · refine h.modCanister fun within => ?_
    unfold Canister.cleared
    split
    · exact fun configured => Nat.zero_le _
    · exact within

theorem answerClassSet (h : Kept s t) {p : List Byte} : Kept s (t.answerClassSet p).state := by
  unfold State.answerClassSet
  split
  · exact h
  split
  · exact h
  · exact h.trans ⟨⟨rfl, id, id, id⟩, id⟩

theorem answerLids (h : Kept s t) {p : List Byte} : Kept s (t.answerLids p).state := by
  unfold State.answerLids
  split
  · exact h
  split
  · exact h
  · rename_i cls _
    exact h.withMagazine (f := fun l => l.load cls _) rfl fun _ => Nat.min_le_right _ _

theorem answerSettingsSet (h : Kept s t) {p : List Byte} : Kept s (t.answerSettingsSet p).state := by
  unfold State.answerSettingsSet
  split
  · exact h
  · refine h.trans ⟨⟨rfl, id, id, fun ⟨⟨canisters, _⟩, rest⟩ => ⟨⟨canisters, ?_⟩, rest⟩⟩, id⟩
    simp only [State.tables, Settings.InRange, Settings.clamped, clampTo]
    omega

theorem answerSave (h : Kept s t) {p : List Byte} : Kept s (t.answerSave p).state := by
  refine h.bare ?_
  split
  · exact h
  · refine h.trans ⟨⟨rfl, id, id, fun ⟨inUse, flash, _, magazines⟩ => ⟨inUse, flash, ?_, magazines⟩⟩, id⟩
    intro copy saved
    cases saved
    exact inUse

theorem endSave (h : Kept s t) {verified : Bool} : Kept s (t.endSave verified) := by
  unfold State.endSave
  split
  · exact h
  · rename_i copy saving
    have ended : Kept s { t with supply := { t.supply with saving := none, flash := copy, flashValid := verified } } :=
      h.trans ⟨⟨rfl, id, id, fun ⟨inUse, _, copies, magazines⟩ => ⟨inUse, copies copy saving, by simp, magazines⟩⟩, id⟩
    exact ended.notify

end Kept

end Sys2Proof.Machine
end

section
/-! The supply warning and start-up keep the invariants, and so does every command. -/

namespace Sys2Proof.Machine

namespace Kept

variable {s t u : State}

/-! ## The supply warning -/

theorem warnStation (h : Kept s t) {count : Option Nat} : Kept s (t.warnStation count) := by
  unfold State.warnStation
  refine modStation (abandonSettle (ite ?_ h))
  split
  · exact h.endStroke.setEntry
  · exact h

/-- The warning leaves the latch with the mode, and a warned controller may have its chain open in any mode (R170). -/
theorem warn (h : Kept s t) {count : Option Nat} {travelled : Nat} : Kept s (t.warn count travelled) := by
  have stationed := h.warnStation (count := count)
  refine ⟨⟨stationed.pending, ?queues, stationed.book, ?tables⟩, ?line⟩
  case queues => exact fun inv => ⟨Nat.zero_le _, (h.queues inv).2⟩
  case tables =>
    intro inv
    have ⟨inUse, _⟩ := stationed.tables inv
    have ⟨_, flash, _, magazines⟩ := h.tables inv
    refine ⟨inUse, flash, fun _ saved => (by cases saved), fun cls => ?_⟩
    have kept : t.lidder.halted.magazines = t.lidder.magazines := by
      unfold Lidder.halted
      split <;> rfl
    simpa only [State.warn, kept] using magazines cls
  case line =>
    intro inv
    have ⟨latch, _⟩ := h.line inv
    exact ⟨latch, fun _ => rfl, fun working => by simp [State.warn, Supply.warn] at working⟩

/-! ## Start-up -/

theorem flagUnclean (h : Kept s t) : Kept s t.flagUnclean := by
  refine ite h (h.withBook ?_)
  have numbers : ∀ o : Order, (o.doubted (t.activeEntry o)).number = o.number := fun o => by
    unfold Order.doubted
    split <;> rfl
  simp [Function.comp_def, numbers]

theorem mapOrder (h : Kept s t) {n : Nat} : Kept s (t.mapOrder n) := by
  unfold State.mapOrder
  split
  · exact h
  refine ite h.reportLift ?_
  split
  case h_3 | h_4 | h_5 | h_6 | h_7 | h_8 | h_9 => exact h.loseTin
  case h_10 => exact ite h h.freeOrder
  case h_11 | h_12 => exact ite h (h.modOrder (by intro; rfl))
  all_goals exact h

theorem mapOrders (h : Kept s t) : Kept s t.mapOrders := (h.foldl_order fun _ _ g => g.mapOrder).modStation

theorem loadWarm (h : Kept s t) : Kept s t.loadWarm := by
  have kept := h.flagUnclean.mapOrders.withCanisters
    (v := Vector.ofFn fun p : Position => t.flagUnclean.mapOrders.canisters[p].kept) fun within p => by
      have same : (t.flagUnclean.mapOrders.canisters[p].kept).Within := within p
      simpa using same
  exact kept.frame rfl

/-- The tables of a cold start are those of the flash store or blank ones, and every magazine is empty (R174). -/
theorem loadCold (h : Kept s t) : Kept s t.loadCold := by
  refine h.trans ⟨⟨rfl, id, ?book, ?tables⟩, id⟩
  case book => exact fun _ => by simp [State.BookInv, State.loadCold]
  case tables =>
    rintro ⟨-, flash, saving, -⟩
    have ⟨canisters, settings⟩ : t.supply.coldTables.Sound := t.supply.coldTables_sound flash
    have settings_loaded : t.loadCold.tables.settings = t.supply.coldTables.settings := by
      simp only [State.loadCold, State.tables]
    refine ⟨?sound, flash, saving, fun cls => (by cases cls <;> exact Nat.zero_le _)⟩
    constructor
    · intro p
      have within : ((t.supply.coldTables.canisters[p].loaded t.canisters[p].seated)).Within := canisters p
      simpa [State.loadCold, State.tables, Canister.Within] using within
    · rw [settings_loaded]
      exact settings

theorem loadImage (h : Kept s t) {warm : Bool} : Kept s (t.loadImage warm).1 := by
  have emptied : Kept s { t with notices := [] } := h.withNotices fun _ => Nat.zero_le _
  exact h.withNoticesOf (ite emptied.loadWarm emptied.loadCold)

/-- Emptied queues are within their bounds (R169). -/
theorem emptyQueues (h : Kept s t) : Kept s t.emptyQueues :=
  h.trans ⟨⟨rfl, fun _ => ⟨Nat.zero_le _, Nat.zero_le _⟩, id, id⟩, id⟩

end Kept

namespace BoundsKept

variable {s t : State}

theorem readSensors (h : BoundsKept s t) {x : Sensors} : BoundsKept s (t.readSensors x) := by
  refine h.trans ⟨rfl, id, id, ?_⟩
  rintro ⟨⟨canisters, settings⟩, rest⟩
  refine ⟨⟨fun p => ?_, settings⟩, rest⟩
  have within : ({ t.canisters[p] with seated := x.seated[p] } : Canister).Within := canisters p
  simpa [State.readSensors, State.tables, Canister.Within] using within

theorem loadImage (h : BoundsKept s t) {warm : Bool} : BoundsKept s (t.loadImage warm).1 :=
  h.trans (Kept.refl t).loadImage.toBoundsKept

theorem startStations (h : BoundsKept s t) : BoundsKept s t.startStations := h.trans ⟨rfl, id, id, id⟩

theorem emptyQueues (h : BoundsKept s t) : BoundsKept s t.emptyQueues :=
  h.trans (Kept.refl t).emptyQueues.toBoundsKept

theorem announceStart (h : BoundsKept s t) {warm : Bool} : BoundsKept s (t.announceStart warm) := by
  refine h.trans (BoundsKept.trans ?_ (Kept.refl _).notify.toBoundsKept)
  exact ⟨rfl, id, id, fun ⟨inUse, flash, _, magazines⟩ => ⟨inUse, flash, by simp, magazines⟩⟩

theorem foldl_notify (h : BoundsKept s t) {l : List NoticeBody} : BoundsKept s (l.foldl State.notify t) :=
  h.trans (Kept.refl t).foldl_notify.toBoundsKept

theorem chainAtStart (h : BoundsKept s t) : BoundsKept s t.chainAtStart := by
  unfold State.chainAtStart
  split
  · exact Kept.openChain_bounds h
  · exact h

theorem startUp (h : BoundsKept s t) {x : Sensors} {warm : Bool} : BoundsKept s (t.startUp x warm) :=
  (h.readSensors (x := x)).loadImage.startStations.emptyQueues.announceStart.foldl_notify.chainAtStart

theorem startUpSteps (h : BoundsKept s t) {x : Sensors} {warm : Bool} {k : Nat} :
    BoundsKept s (t.startUpSteps x warm k) := by
  unfold State.startUpSteps
  split
  · exact h
  · exact h.readSensors
  · exact h.readSensors.loadImage
  · exact h.readSensors.loadImage.startStations
  · exact h.readSensors.loadImage.startStations.emptyQueues

theorem abandonStart (h : BoundsKept s t) : BoundsKept s t.abandonStart :=
  h.trans ⟨rfl, fun ⟨_, notices⟩ => ⟨Nat.zero_le _, notices⟩, id,
    fun ⟨inUse, flash, _, magazines⟩ => ⟨inUse, flash, fun _ saved => (by cases saved), magazines⟩⟩

end BoundsKept

/-- Before its last step a start-up leaves the line PAUSED without a latch, and a chain found open is then taken as an
opening (R156, R175). -/
theorem State.lineInv_chainAtStart {s : State} (mode : s.line.mode = .paused) (latch : s.line.latch = false) :
    s.chainAtStart.LineInv := by
  unfold State.chainAtStart
  split
  · exact Kept.lineInv_openChain fun stopped => by simp [mode] at stopped
  · rename_i closed
    simp [State.LineInv, mode, latch, closed]

theorem State.lineInv_startUp (s : State) (x : Sensors) (warm : Bool) : (s.startUp x warm).LineInv := by
  unfold State.startUp
  refine State.lineInv_chainAtStart ?_ ?_
  all_goals
    rw [State.foldl_notify]
    rfl

/-- An abandoned start-up stays warned, so that its line mode unit need only keep the latch with the mode (R175). -/
theorem State.lineInv_abandonStart {s : State} (latch : s.line.latch = true ↔ s.line.mode = .stopped)
    (pending : s.line.mode = .stopped → s.line.pendingMode = none) : s.abandonStart.LineInv :=
  ⟨latch, pending, fun working => by simp [State.abandonStart] at working⟩

theorem State.reportLift_line (s : State) (n : Nat) : (s.reportLift n).line = s.line := by rw [State.reportLift_eq]

theorem State.changeOrder_line (s : State) (n : Nat) (st : OrderState) : (s.changeOrder n st).line = s.line := by
  rw [State.changeOrder_eq]

theorem State.loseTin_line (s : State) (n : Nat) : (s.loseTin n).line = s.line := by
  unfold State.loseTin
  split
  · rfl
  split
  · exact s.reportLift_line n
  all_goals exact State.changeOrder_line _ _ _

theorem State.mapOrder_line (s : State) (n : Nat) : (s.mapOrder n).line = s.line := by
  unfold State.mapOrder
  split
  · rfl
  split
  · exact s.reportLift_line n
  split
  case h_3 | h_4 | h_5 | h_6 | h_7 | h_8 | h_9 => exact s.loseTin_line n
  case h_10 =>
    split
    · rfl
    · rw [State.freeOrder_eq]
  case h_11 | h_12 => split <;> rfl
  all_goals rfl

theorem State.foldl_mapOrder_line (s : State) (os : List Order) :
    (os.foldl (fun t o => t.mapOrder o.number) s).line = s.line := by
  induction os generalizing s with
  | nil => rfl
  | cons o rest ih => exact (ih _).trans (s.mapOrder_line _)

/-- Neither start reads or writes the line mode unit in its second step (R173, R174). -/
theorem State.loadImage_line (s : State) (warm : Bool) : (s.loadImage warm).1.line = s.line := by
  cases warm with
  | false => rfl
  | true =>
    have flagged : ∀ t : State, t.flagUnclean.line = t.line := fun t => by
      unfold State.flagUnclean
      split <;> rfl
    simp only [State.loadImage, State.loadWarm, State.mapOrders, State.modStation_line, if_true,
      State.foldl_mapOrder_line, flagged]

theorem State.lineInv_startUpSteps {s : State} (inv : s.LineInv) (x : Sensors) (warm : Bool) (k : Nat) :
    (s.startUpSteps x warm k).abandonStart.LineInv := by
  have ⟨latch, pending, _⟩ := inv
  unfold State.startUpSteps
  split
  · exact State.lineInv_abandonStart latch pending
  · exact State.lineInv_abandonStart latch pending
  · have image := State.loadImage_line (s.readSensors x) warm
    exact State.lineInv_abandonStart (by rw [image]; exact latch) (by rw [image]; exact pending)
  · exact State.lineInv_abandonStart ⟨nofun, nofun⟩ nofun
  · exact State.lineInv_abandonStart ⟨nofun, nofun⟩ nofun

/-- A command of the controller answers a next state that keeps what its effect keeps. -/
theorem State.command_keeps {s : State} {f : State → State} (effect : Kept s (f s)) :
    ∃ t, s.command f = .next t ∧ Kept s t := by
  rcases s.command_cases f with ⟨-, unchanged⟩ | ⟨-, done⟩
  · exact ⟨s, unchanged, .refl s⟩
  · exact ⟨_, done, effect.finish⟩

theorem State.requestCommand_keeps {s : State} {kind tag : Byte} {p : List Byte} {owner : State → Answer}
    (owned : ∀ u, Kept s u → Kept s (owner u).state) :
    ∃ t, s.requestCommand kind tag p owner = .next t ∧ Kept s t :=
  State.command_keeps ((Kept.refl s).request owned)

theorem State.resolveCommand_keeps {s : State} {a : Action} {tag : Byte} {p : List Byte}
    {owner : List Byte → State → Answer} (owned : ∀ u, Kept s u → Kept s (owner p u).state) :
    ∃ t, s.resolveCommand a tag p owner = .next t ∧ Kept s t :=
  State.command_keeps (((Kept.refl s).request owned).ite (.refl s))

theorem execSupplyWarning_keeps (count : Option Nat) (travelled : Nat) (s : State) :
    ∃ t, execSupplyWarning count travelled s = .next t ∧ Kept s t := by
  unfold execSupplyWarning
  split
  · exact ⟨s, rfl, .refl s⟩
  · exact ⟨_, rfl, (Kept.refl s).warn⟩

theorem execStartUp_keeps (x : Sensors) (warm : Bool) (steps : Option (Fin 5)) (s : State) :
    ∃ t, execStartUp x warm steps s = .next t ∧ Kept s t := by
  have same : BoundsKept s s := (Kept.refl s).toBoundsKept
  cases steps with
  | none => exact ⟨_, rfl, Kept.finish ⟨same.startUp, fun _ => s.lineInv_startUp x warm⟩⟩
  | some k => exact ⟨_, rfl, same.startUpSteps.abandonStart, fun inv => State.lineInv_startUpSteps inv x warm k⟩

end Sys2Proof.Machine
end

section
/-! What one command keeps, and so what one step keeps (O2, O58, O59). -/

namespace Sys2Proof.Machine

/-- Every command answers a next state and keeps the queue of commands and every invariant. -/
theorem exec_keeps (c : Instr) (s : State) : ∃ t, exec c s = .next t ∧ Kept s t := by
  have same : Kept s s := .refl s
  cases c with
  | ident => exact State.requestCommand_keeps fun _ h => h.answerIdent
  | status => exact State.command_keeps same.takeStatus
  | orderSubmit => exact State.requestCommand_keeps fun _ h => h.answerSubmit
  | orderQuery => exact State.requestCommand_keeps fun _ h => h.answerQuery
  | orderCancel => exact State.requestCommand_keeps fun _ h => h.answerCancel
  | orderCorrect => exact State.requestCommand_keeps fun _ h => h.answerCorrect
  | orderApprove => exact State.requestCommand_keeps fun _ h => h.answerApprove
  | orderResume => exact State.requestCommand_keeps fun _ h => h.answerResume
  | resolveRetryShot => exact State.resolveCommand_keeps fun _ h => h.answerResolve fun _ _ _ g => g.actRetryShot
  | resolveSkipShot => exact State.resolveCommand_keeps fun _ h => h.answerResolve fun _ _ _ g => g.actSkipShot
  | resolveAccept => exact State.resolveCommand_keeps fun _ h => h.answerResolve fun _ _ _ g => g.actAccept
  | resolveRetry => exact State.resolveCommand_keeps fun _ h => h.answerResolve fun _ _ _ g => g.actRetry
  | resolveConfirm => exact State.resolveCommand_keeps fun _ h => h.answerResolve fun _ _ _ g => g.actConfirm
  | resolvePass => exact State.resolveCommand_keeps fun _ h => h.answerResolve fun _ _ _ g => g.actPass
  | resolveScrap => exact State.resolveCommand_keeps fun _ h => h.answerResolve fun _ _ _ g => g.actScrap
  | resolveRemake => exact State.resolveCommand_keeps fun _ h => h.answerResolve fun _ _ _ g => g.actRemake
  | resolveCancel => exact State.resolveCommand_keeps fun _ h => h.answerResolve fun _ _ _ g => g.actCancel
  | resolveRelease => exact State.resolveCommand_keeps fun _ h => h.answerRelease
  | manualDone =>
    unfold exec execManualDone
    refine State.command_keeps ?_
    split
    · exact same
    · exact same.request fun _ h => h.answerManualDone
  | manualSkip =>
    unfold exec execManualSkip
    refine State.command_keeps ?_
    split
    · exact same
    · exact same.request fun _ h => h.answerManualSkip
  | planPreview => exact State.requestCommand_keeps fun _ h => h.answerPreview
  | canisterSet => exact State.requestCommand_keeps fun _ h => h.answerCanisterSet
  | canisterQuery => exact State.requestCommand_keeps fun _ h => h.answerCanisterQuery
  | canisterRefill => exact State.requestCommand_keeps fun _ h => h.answerRefill
  | canisterClear => exact State.requestCommand_keeps fun _ h => h.answerCanisterClear
  | classSet => exact State.requestCommand_keeps fun _ h => h.answerClassSet
  | classQuery => exact State.requestCommand_keeps fun _ h => h.bare h
  | lidsLoaded => exact State.requestCommand_keeps fun _ h => h.answerLids
  | lineRun => exact State.requestCommand_keeps fun _ h => h.answerRun
  | linePause => exact State.requestCommand_keeps fun _ h => h.answerPause
  | lineService => exact State.requestCommand_keeps fun _ h => h.answerService
  | stopReset => exact State.requestCommand_keeps fun _ h => h.answerStopReset
  | clearLine => exact State.requestCommand_keeps fun _ h => h.answerClearLine
  | settingsSet => exact State.requestCommand_keeps fun _ h => h.answerSettingsSet
  | settingsQuery => exact State.requestCommand_keeps fun _ h => h.bare h
  | storeSave => exact State.requestCommand_keeps fun _ h => h.answerSave
  | unknownKindRequest => 
    unfold exec execUnknownKindRequest
    refine State.command_keeps ?_
    split
    · exact same
    · exact same.request (owner := fun u => u.refuse .unknownKind) fun _ h => h
  | frameReceived => exact State.command_keeps same.receive
  | frameGapTimeout =>
    unfold exec execFrameGapTimeout
    exact State.command_keeps same.receive.dropGathered
  | ctsChange =>
    unfold exec execCtsChange
    exact State.command_keeps (same.frame rfl)
  | transmitEnd => exact State.command_keeps same.endFrame
  | pauseComplete => exact State.command_keeps same.completePause
  | estopChainOpen => exact State.command_keeps same.openChain
  | estopChainClose =>
    unfold exec execEstopChainClose
    exact State.command_keeps same.closeChain
  | intakeTinPlaced => exact State.command_keeps same.placeTin
  | intakeBindRetry => exact State.command_keeps same.bindRetry
  | intakeTinLifted =>
    unfold exec execIntakeTinLifted
    exact State.command_keeps same.modIntake.liftIntake
  | transferStart => exact State.command_keeps same.startTransfer
  | transferArrival => exact State.command_keeps same.arrive
  | transferTimeout => exact State.command_keeps same.expireTransfer
  | dispensePresenceRise => exact State.command_keeps same.stationRise
  | dispensePresenceFall => exact State.command_keeps same.stationFall
  | weighSample =>
    unfold exec execWeighSample
    exact State.command_keeps same.withWeigh
  | settledReading => exact State.command_keeps same.settleReading
  | settleWindowTimeout => exact State.command_keeps (same.settleAbsent.ite same)
  | scaleFaultLineChange => exact State.command_keeps same.scaleFault
  | dispenseResumeOperation => exact State.command_keeps same.resumeStation
  | moveArrived => exact State.command_keeps same.moveArrived
  | moveTimeout => exact State.command_keeps same.moveExpires
  | homePass => exact State.command_keeps same.homePass
  | homingComplete => exact State.command_keeps same.homingDone
  | homingTimeout => exact State.command_keeps same.homingExpires
  | pumpComplete => exact State.command_keeps same.pumpDone
  | strokeTimeout => exact State.command_keeps (same.haltStroke.ite same)
  | seatedSwitchOpen => exact State.command_keeps same.unseat
  | seatedSwitchClose => exact State.command_keeps same.reseat
  | bayPresenceRise => exact State.command_keeps same.bayRise
  | bayPresenceFall => exact State.command_keeps same.bayFall
  | bayBeginOperation =>
    unfold exec execBayBeginOperation
    exact State.command_keeps (same.whenBay (same.beginBay.ite same))
  | bayClampClosedRise =>
    unfold exec execBayClampClosedRise
    exact State.command_keeps (same.modBay.whenBay same.modBay.beginSpin)
  | bayClampTimeout =>
    unfold exec execBayClampTimeout
    exact State.command_keeps (same.whenBay same.bayFault)
  | baySpinEnd =>
    unfold exec execBaySpinEnd
    exact State.command_keeps (same.whenBay same.modBay.brakeBay)
  | bayImbalanceTrip =>
    unfold exec execBayImbalanceTrip
    exact State.command_keeps (same.whenBay same.brakeBay)
  | bayClampClosedFall => exact State.command_keeps same.clampFall
  | bayBrakeEnd =>
    unfold exec execBayBrakeEnd
    exact State.command_keeps same.brakeEnds
  | bayUnclampTimeout =>
    unfold exec execBayUnclampTimeout
    exact State.command_keeps (same.whenBay same.bayFault)
  | lidderTakeSource => exact State.command_keeps same.takeSource
  | lidderBeginPlacing => exact State.command_keeps same.beginLidder
  | lidPlaced =>
    unfold exec execLidPlaced
    exact State.command_keeps (same.whenLidder (same.modLidder (by rfl)).press)
  | lidPlaceTimeout =>
    unfold exec execLidPlaceTimeout
    exact State.command_keeps (same.whenLidder (same.modLidder (by rfl)).seatFault)
  | pressComplete =>
    unfold exec execPressComplete
    exact State.command_keeps (same.whenLidder same.checkSeat)
  | lidderPresenceRise => exact State.command_keeps same.lidderRise
  | lidderPresenceFall =>
    have fallen : Kept s (s.modLidder fun l => { l with present := false }) := same.modLidder rfl
    unfold exec execLidderPresenceFall
    exact State.command_keeps (fallen.whenLidder fallen.liftLidder)
  | lanePresenceRise => exact State.command_keeps same.laneRise
  | lanePresenceFall => exact State.command_keeps same.laneFall
  | supplyWarning => exact execSupplyWarning_keeps _ _ s
  | startUp => exact execStartUp_keeps _ _ _ s
  | storeSaveEnd => exact State.command_keeps same.endSave
  | lengthByteOver240 => exact State.command_keeps same.receive

/-- The command a step takes leaves the queue by the step, so the step keeps the invariants and not the queue. -/
theorem step_keeps {s t : State} (stepped : step s = .next t) :
    (s.LineInv → t.LineInv) ∧ (s.QueueInv → t.QueueInv) ∧ (s.BookInv → t.BookInv) ∧ (s.TablesInv → t.TablesInv) := by
  unfold step at stepped
  split at stepped
  · cases stepped
    exact ⟨id, id, id, id⟩
  · rename_i c rest _
    obtain ⟨u, executed, kept⟩ := exec_keeps c { s with pending := rest }
    rw [executed] at stepped
    cases stepped
    exact ⟨kept.line, kept.queues, kept.book, kept.tables⟩

/-- Settles O2: a command's next state keeps the queue of commands. -/
theorem everyCommandAnswersANextState : Obligations.EveryCommandAnswersANextState := fun c s =>
  have ⟨t, executed, kept⟩ := exec_keeps c s
  ⟨t, executed, kept.pending⟩

/-- Settles O58, from what one step keeps. -/
theorem lineInvKeptByEveryStep : Obligations.LineInvKeptByEveryStep := fun _ _ inv stepped =>
  (step_keeps stepped).1 inv

/-- Settles O59, from what one step keeps. -/
theorem boundsKeptByEveryStep : Obligations.BoundsKeptByEveryStep :=
  ⟨⟨fun _ _ inv stepped => (step_keeps stepped).2.1 inv, fun _ _ inv stepped => (step_keeps stepped).2.2.1 inv⟩,
    fun _ _ inv stepped => (step_keeps stepped).2.2.2 inv⟩

end Sys2Proof.Machine
end

section
/-! Steps, a warned controller, and the state after reset (O1, O3, O4, O60). -/

namespace Sys2Proof.Machine

/-- Settles O1: the two equations of a step. -/
theorem stepRunsTheFrontCommand : Obligations.StepRunsTheFrontCommand := by
  refine ⟨fun c rest s front => ?_, fun s idle => ?_⟩
  · rw [step, front]
  · rw [step, idle]

/-- Settles O3: every row but START_UP looks at the supply monitor first. -/
theorem warnedControllerOnlyStartsUp : Obligations.WarnedControllerOnlyStartsUp := by
  intro c s warned notStartUp
  cases c
  case startUp x m k => exact absurd rfl (notStartUp x m k)
  all_goals exact if_pos warned

theorem Magazines.count_of_reset (cls : TinClass) : State.reset.lidder.magazines.count cls = 0 := by
  cases cls <;> rfl

/-- Settles O4: every field of the reset state read off. -/
theorem resetIsAColdStart : Obligations.ResetIsAColdStart := by
  refine ⟨rfl, fun p => ?canisters, fun i => ?classes, rfl, rfl, rfl, rfl, rfl, rfl, rfl, rfl, rfl,
    Magazines.count_of_reset, fun l => ?lanes, rfl, rfl, rfl, rfl, rfl, rfl, rfl, rfl, rfl⟩
  case canisters => simp [State.reset, Tables.blank, Canister.configured]
  case classes => simp [State.reset, Tables.blank]
  case lanes => simp [State.reset, LaneRecord.start]

theorem Tables.blank_sound : Tables.blank.Sound :=
  ⟨fun p => by simp [Tables.blank, Canister.configured],
    by simp [Tables.blank, Settings.defaults, Settings.InRange]⟩

/-- Settles O60: the reset state has an empty book, one notice and blank tables. -/
theorem invariantsHoldAfterReset : Obligations.InvariantsHoldAfterReset := by
  refine ⟨?line, ?queues, ?book, ?tables⟩
  case line => simp [State.LineInv, State.reset]
  case queues => simp [State.QueueInv, State.reset]
  case book => simp [State.BookInv, State.reset]
  case tables =>
    exact ⟨Tables.blank_sound, Tables.blank_sound, nofun,
      fun cls => (Magazines.count_of_reset cls).trans_le (Nat.zero_le _)⟩

end Sys2Proof.Machine
end

section
/-! What ends every command, field by field, and the transmitter's choice (O5, O6). -/

namespace Sys2Proof.Machine

variable (s : State)

theorem State.startsAllowed_iff :
    s.startsAllowed = true ↔ s.line.mode = .running ∧ s.line.pendingMode ≠ some .pause ∧
      (s.notices.filter fun n => n.body.cls ≠ .progress).length < 48 := by
  simp [State.startsAllowed, State.heldRunning, State.congested, attentionCount, List.countP_eq_length_filter,
    Config.congestionCount, and_assoc, bne, beq_eq_decide]

@[simp] theorem State.holdWaiting_link : s.holdWaiting.link = s.link := by
  rcases s.holdWaiting_cases with same | ⟨-, -, held⟩
  · rw [same]
  · rw [held, State.modStation_link]

@[simp] theorem State.holdWaiting_notices : s.holdWaiting.notices = s.notices := by
  rcases s.holdWaiting_cases with same | ⟨-, -, held⟩
  · rw [same]
  · rw [held, State.modStation_notices]

@[simp] theorem State.holdWaiting_conveyor : s.holdWaiting.conveyor = s.conveyor := by
  rcases s.holdWaiting_cases with same | ⟨-, -, held⟩
  · rw [same]
  · rw [held, State.modStation_conveyor]

/-- The choice of a frame touches the notice queue and the transmitter alone. -/
theorem State.chooseFrame_eq :
    s.chooseFrame = { s with
      notices := s.chooseFrame.notices, link := { s.link with tx := s.chooseFrame.link.tx } } := by
  rcases s.chooseFrame_cases with same | ⟨r, reply⟩ | ⟨n, rest, -, notice⟩
  · rw [same]
  · rw [reply]
  · rw [notice]

/-- The records that run again are those a resumption makes of the ones that stand; the requests stay. -/
theorem State.resumeHalted_eq :
    s.resumeHalted = { s with conveyor := s.resumeHalted.conveyor } := by
  rcases s.resumeHalted_cases with same | ⟨c, resumed⟩
  · rw [same]
  · rw [resumed]

theorem State.resumeHalted_record (d : Dest) :
    s.resumeHalted.record d = if s.startsAllowed then resumeRecord (s.record d) else s.record d := by
  unfold State.resumeHalted
  split
  · cases d with
    | bay b => cases b <;> rfl
    | _ => rfl
  · rfl

/-- What ends a command, as its last two acts upon the frame chosen. -/
theorem State.finish_conveyor : s.finish.conveyor = s.holdWaiting.chooseFrame.resumeHalted.conveyor := rfl

theorem State.finish_station : s.finish.station = s.holdWaiting.station := by
  unfold State.finish State.updateRts
  rw [State.resumeHalted_eq, State.chooseFrame_eq]

theorem State.finish_startsAllowed : s.finish.startsAllowed = s.holdWaiting.chooseFrame.startsAllowed := by
  unfold State.finish State.updateRts
  rw [State.resumeHalted_eq]
  rfl

theorem State.chooseFrame_conveyor : s.chooseFrame.conveyor = s.conveyor := by rw [State.chooseFrame_eq]

/-- Exactly while starts are allowed after the command do the HALTED records that wait for them run again (R118). -/
theorem State.finish_record (d : Dest) :
    s.finish.record d = if s.finish.startsAllowed then resumeRecord (s.record d) else s.record d := by
  rw [State.finish_startsAllowed]
  have chosen : s.holdWaiting.chooseFrame.record d = s.record d := by
    rw [State.record, State.chooseFrame_conveyor, State.holdWaiting_conveyor, State.record]
  rw [← chosen]
  exact State.resumeHalted_record _ d

theorem State.finish_requests :
    s.finish.conveyor.intakeRequest = s.conveyor.intakeRequest ∧
      s.finish.conveyor.stationRequest = s.conveyor.stationRequest ∧
      s.finish.conveyor.outletRequest = s.conveyor.outletRequest := by
  rw [State.finish_conveyor, State.resumeHalted]
  split
  · simp [State.chooseFrame_conveyor]
  · simp [State.chooseFrame_conveyor]

theorem State.finish_link :
    s.finish.link = { s.link with
      tx := s.holdWaiting.chooseFrame.link.tx
      rts := !s.supply.warned && decide (s.link.queue.length < 4) } := by
  have supply : s.holdWaiting.chooseFrame.resumeHalted.supply = s.supply := s.finish_supply
  unfold State.finish State.updateRts
  rw [supply, State.resumeHalted_eq, State.chooseFrame_eq]
  simp [Config.inputQueueSize]

theorem resumeRecord_of_halted {t : Transfer} (halted : t.state = .halted) (retried : t.retried = true) :
    resumeRecord (some t) = some { t with state := .running, retried := false } :=
  if_pos ⟨halted, retried⟩

theorem resumeRecord_of_not_waiting {t : Transfer} (other : t.state ≠ .halted ∨ t.retried = false) :
    resumeRecord (some t) = some t := by
  refine if_neg fun ⟨halted, retried⟩ => ?_
  simp [halted, retried] at other

/-- Settles O5, from what each part of the end of a command touches. -/
theorem endOfCommandFrame : Obligations.EndOfCommandFrame := by
  intro s
  refine ⟨?frame, ?kept, ?putOff, ?withheld, ?resumed, ?standing, ?absent, s.finish_requests, s.startsAllowed_iff,
    s.finish_queue, by rw [s.finish_link], by rw [s.finish_link], by rw [s.finish_link]⟩
  case frame => rw [s.finish_eq]
  case kept =>
    intro notWaiting
    rw [s.finish_station, State.holdWaiting, if_neg (by simpa using notWaiting)]
  case putOff =>
    intro waiting withheld
    rw [s.finish_station, State.holdWaiting, if_pos ⟨waiting, by simp [withheld]⟩]
    rfl
  case withheld =>
    intro withheld
    rw [s.finish_startsAllowed] at withheld
    rw [s.finish_conveyor, State.resumeHalted, if_neg (by simp [withheld]), State.chooseFrame_conveyor,
      State.holdWaiting_conveyor]
  case resumed =>
    intro d t allowed stands halted retried
    rw [s.finish_record, if_pos allowed, stands, resumeRecord_of_halted halted retried]
  case standing =>
    intro d t stands other
    rw [s.finish_record, stands, resumeRecord_of_not_waiting other, ite_self]
  case absent =>
    intro d absent
    rw [s.finish_record, absent]
    exact ite_self _

/-! ## The transmitter's choice -/

theorem State.finish_tx : s.finish.link.tx = s.holdWaiting.chooseFrame.link.tx := by rw [s.finish_link]

theorem State.finish_notices_eq : s.finish.notices = s.holdWaiting.chooseFrame.notices := by
  unfold State.finish State.updateRts
  rw [State.resumeHalted_eq]

variable {s}

/-- A free transmitter takes the reply of the oldest request (R162). -/
theorem State.chooseFrame_of_reply {r : Reply} (idle : s.link.tx = .idle) (cts : s.link.cts = true)
    (reply : s.link.queue.head?.bind (·.reply) = some r) :
    s.chooseFrame = { s with link := { s.link with tx := .sendingReply r } } := by
  rw [State.chooseFrame, if_pos ⟨idle, cts⟩, reply]

/-- A free transmitter without a reply to send takes the oldest notice (R162). -/
theorem State.chooseFrame_of_notice {n : Notice} {rest : List Notice} (idle : s.link.tx = .idle)
    (cts : s.link.cts = true) (noReply : s.link.queue.head?.bind (·.reply) = none) (notices : s.notices = n :: rest) :
    s.chooseFrame = { s with
      notices := rest, link := { s.link with tx := .sendingNotice n.body.kind noticeTag n } } := by
  rw [State.chooseFrame, if_pos ⟨idle, cts⟩, noReply, notices]

theorem State.chooseFrame_of_nothing (noReply : s.link.queue.head?.bind (·.reply) = none) (notices : s.notices = []) :
    s.chooseFrame = s := by
  rw [State.chooseFrame, noReply, notices]
  exact ite_self _

theorem State.chooseFrame_of_busy (busy : s.link.tx ≠ .idle ∨ s.link.cts = false) : s.chooseFrame = s := by
  refine if_neg fun ⟨idle, cts⟩ => ?_
  simp [idle, cts] at busy

theorem NoticeBody.kind_range (b : NoticeBody) :
    (b.cls = .progress → 0xC0 ≤ b.kind.toNat ∧ b.kind.toNat ≤ 0xC6) ∧
    (b.cls = .attention → 0xD0 ≤ b.kind.toNat ∧ b.kind.toNat ≤ 0xD7) ∧ (b.cls = .fault → b.kind = 0xDC) := by
  cases b <;> simp [NoticeBody.cls, NoticeBody.kind]

/-- Settles O6, by what the transmitter finds when it is free. -/
theorem transmitterTakesReplyBeforeNotice : Obligations.TransmitterTakesReplyBeforeNotice := by
  refine ⟨NoticeBody.kind_range, fun s => ⟨fun idle cts => ?free, fun busy => ?busy⟩⟩
  all_goals rw [s.finish_tx, s.finish_notices_eq]
  case free =>
    have held_idle : s.holdWaiting.link.tx = .idle := by rw [s.holdWaiting_link, idle]
    have held_cts : s.holdWaiting.link.cts = true := by rw [s.holdWaiting_link, cts]
    refine ⟨fun r reply => ?reply, fun noReply => ⟨fun n rest notices => ?notice, fun notices => ?nothing⟩⟩
    case reply => simp [State.chooseFrame_of_reply held_idle held_cts (r := r) (by simpa using reply)]
    case notice =>
      simp [State.chooseFrame_of_notice held_idle held_cts (n := n) (rest := rest) (by simpa using noReply)
        (by simpa using notices), noticeTag]
    case nothing =>
      simp [State.chooseFrame_of_nothing (s := s.holdWaiting) (by simpa using noReply) (by simpa using notices), idle,
        notices]
  case busy =>
    simp [State.chooseFrame_of_busy (s := s.holdWaiting) (by simpa using busy)]

end Sys2Proof.Machine
end

section
/-! The merging of notices and their subjects (O8). -/

namespace Sys2Proof.Machine

theorem mergeNotice_of_first {before after : List Notice} {n : Notice} {b : NoticeBody}
    (unmatched : ∀ m ∈ before, m.body.sameSubject b = false) (matched : n.body.sameSubject b = true) :
    mergeNotice b (before ++ n :: after) = some (before ++ n.merged b :: after) := by
  induction before with
  | nil => simp [mergeNotice, matched]
  | cons m rest ih =>
    have tail := ih fun x hx => unmatched x (List.mem_cons_of_mem _ hx)
    simp [mergeNotice, unmatched m (List.mem_cons_self ..), tail]

theorem NoticeBody.sameSubject_iff {a b : NoticeBody} :
    a.sameSubject b = true ↔ ∃ x, a.subject = some x ∧ b.subject = some x := by
  cases ha : a.subject <;> simp [NoticeBody.sameSubject, ha, @eq_comm _ b.subject]

/-- Only a CANISTER_UNSEATED without an order is about the carousel (R164). -/
theorem NoticeBody.subject_eq_carousel {b : NoticeBody} (h : b.subject = some .carousel) :
    ∃ ps code, b = .canisterUnseated 0 ps code := by
  cases b
  case canisterUnseated order ps code =>
    by_cases zero : order = 0
    · exact ⟨ps, code, by rw [zero]⟩
    · simp [NoticeBody.subject, zero] at h
  case canisterDry order p code v w f => by_cases zero : order = 0 <;> simp [NoticeBody.subject, zero] at h
  all_goals simp [NoticeBody.subject] at h

/-- A merge takes the contents of the new notice but for the carousel's CANISTER_UNSEATED (R164). -/
theorem NoticeBody.mergedWith_of_ne_carousel {a b : NoticeBody} (h : b.subject ≠ some .carousel) :
    a.mergedWith b = b := by
  unfold NoticeBody.mergedWith
  split
  · exact absurd rfl h
  · rfl

theorem NoticeBody.mergedWith_subject {a b : NoticeBody} : (a.mergedWith b).subject = b.subject := by
  unfold NoticeBody.mergedWith
  split <;> rfl

/-- The positions gathered are those of either notice, each once (R164). -/
theorem mem_gathered {ps qs : List Position} {p : Position} :
    p ∈ ps ++ qs.filter (fun q => !ps.contains q) ↔ p ∈ ps ∨ p ∈ qs := by
  by_cases known : p ∈ ps <;> simp [known]

theorem nodup_gathered {ps qs : List Position} (hp : ps.Nodup) (hq : qs.Nodup) :
    (ps ++ qs.filter fun q => !ps.contains q).Nodup := by
  refine hp.append (hq.filter _) fun p known added => ?_
  simp [known] at added

/-- Settles O8, by the first entry of the notice's subject and by the notice kinds. -/
theorem noticeMergedBySubject : Obligations.NoticeMergedBySubject := by
  refine ⟨fun before after n b unmatched matched => ⟨?merged, NoticeBody.mergedWith_subject,
    NoticeBody.mergedWith_of_ne_carousel⟩, fun ps qs code code' => ⟨_, rfl, fun p => mem_gathered,
    nodup_gathered, rfl⟩, fun b other => ?unsubjected, fun a b => NoticeBody.sameSubject_iff, ?kinds⟩
  case merged =>
    rw [queueNotice, mergeNotice_of_first unmatched matched]
    rfl
  case unsubjected =>
    cases b
    case manualStep | canisterLow | canisterDry | canisterUnseated | noOrderForTin | liddedTin | lidsOut | estop =>
      exact absurd rfl other
    all_goals rfl
  case kinds =>
    refine ⟨fun _ _ _ _ => rfl, fun _ _ _ _ _ => rfl, fun _ _ _ _ _ _ ordered => if_neg ordered,
      fun _ _ _ ordered => if_neg ordered, fun _ _ => rfl, fun _ _ _ _ _ _ => rfl, fun _ _ => rfl, fun _ => rfl,
      fun _ _ _ => rfl, fun _ => rfl⟩

end Sys2Proof.Machine
end

section
/-! The taking of requests, their replies, and the requests of the link controller (O9, O10). -/

namespace Sys2Proof.Machine

variable {s w : State} {kind tag : Byte} {p : List Byte}

/-- A request row taken by a working controller, by what its owner answers. -/
theorem State.requestCommand_of_answer {owner : State → Answer} {a : Answer} (taken : s.Takes w kind tag p)
    (answer : owner w = a) :
    s.requestCommand kind tag p owner = .next (a.state.answered kind tag a.status a.body).finish := by
  rw [State.requestCommand_of_takes taken, answer]

/-- A request refused changes nothing but the reply (section 10.6). -/
theorem State.requestCommand_of_refuse {owner : State → Answer} {st : Status} (taken : s.Takes w kind tag p)
    (answer : owner w = w.refuse st) :
    s.requestCommand kind tag p owner = .next (w.answered kind tag st .none).finish := by
  rw [State.requestCommand_of_answer taken answer]
  rfl

/-- A request answered OK with nothing further. -/
theorem State.requestCommand_of_accept {owner : State → Answer} {u : State} (taken : s.Takes w kind tag p)
    (answer : owner w = u.accept) :
    s.requestCommand kind tag p owner = .next (u.answered kind tag .ok .none).finish := by
  rw [State.requestCommand_of_answer taken answer]
  rfl

theorem State.bare_of_payload (owner : State → Answer) (payload : p ≠ []) : w.bare p owner = w.refuse .badLength :=
  if_neg (by simpa using payload)

/-- The entries before the oldest request without a reply are passed over. -/
theorem find?_unanswered {before after : List InputEntry} (replied : ∀ e ∈ before, e.reply ≠ none) :
    (before ++ after).find? (fun e => e.reply.isNone) = after.find? fun e => e.reply.isNone := by
  have none_before : before.find? (fun e => e.reply.isNone) = none :=
    List.find?_eq_none.2 fun e he => by simpa using replied e he
  rw [List.find?_append, none_before, Option.none_or]

theorem putReply_of_oldest {r : Reply} {before after : List InputEntry} {e : InputEntry}
    (replied : ∀ e ∈ before, e.reply ≠ none) (waiting : e.reply = none) :
    putReply r (before ++ e :: after) = before ++ { e with reply := some r } :: after := by
  induction before with
  | nil => simp [putReply, waiting]
  | cons x rest ih =>
    have answered : x.reply.isNone = false := by
      simpa [Option.isSome_iff_ne_none] using replied x (List.mem_cons_self ..)
    simp [putReply, answered, ih fun e he => replied e (List.mem_cons_of_mem _ he)]

theorem State.lineFlags_iff (s : State) :
    (s.lineFlags.congested = true ↔ 48 ≤ (s.notices.filter fun n => n.body.cls ≠ .progress).length) ∧
    (s.lineFlags.estop = true ↔ s.line.mode = .stopped) ∧ (s.lineFlags.backlog = true ↔ 32 ≤ s.notices.length) ∧
    (s.lineFlags.service = true ↔ s.line.mode = .service) ∧ s.lineFlags.supplyWarned = s.link.warnedMark := by
  simp [State.lineFlags, State.congested, attentionCount, List.countP_eq_length_filter, Config.congestionCount,
    Config.backlogCount, bne, beq_eq_decide]
  exact decide_eq_true_iff

/-- Settles O9, by what stands behind the entries that have their replies. -/
theorem requestIsTakenInOrderAndAnsweredOnce : Obligations.RequestIsTakenInOrderAndAnsweredOnce := by
  refine ⟨State.lineFlags_iff, fun s kind tag payload before after replied =>
    ⟨fun queue => ⟨?oldest, fun st body => ?answered⟩, fun queue room => ?arrives, fun queue full => ?full,
      fun e queue waiting other => ?other⟩⟩
  case oldest =>
    rw [State.offer, queue, find?_unanswered replied]
    simp
  case answered =>
    simp only [State.answered]
    rw [queue, putReply_of_oldest replied rfl]
    rfl
  case other =>
    rw [State.offer, queue, find?_unanswered replied]
    simp [waiting, other]
  all_goals
    have none_waits := find?_unanswered (after := []) replied
    rw [List.append_nil] at none_waits
    rw [State.offer, queue, none_waits]
  case arrives => exact if_pos room
  case full => exact if_neg full.not_gt

/-! ## IDENT, STATUS and unlisted kinds -/

/-- STATUS taken by a working controller: the reply, then the supply-warned mark cleared (R161). -/
theorem exec_status_of_takes (taken : s.Takes w 0x02 tag []) :
    exec (.status tag []) s =
      .next (w.drawnInMotion.answered 0x02 tag .ok (.status w.statusReport)).clearWarnedMark.finish := by
  have working := taken.1
  have offered := taken.2
  refine (State.command_of_working working _).trans ?_
  rw [State.takeStatus, offered]
  rfl

/-- A STATUS with a payload is refused and leaves the supply-warned mark (R160). -/
theorem exec_status_of_payload (taken : s.Takes w 0x02 tag p) (payload : p ≠ []) :
    exec (.status tag p) s = .next (w.answered 0x02 tag .badLength .none).finish := by
  have working := taken.1
  have offered := taken.2
  refine (State.command_of_working working _).trans ?_
  have nonempty : p.isEmpty = false := by simpa using payload
  simp only [State.takeStatus, offered, State.answerStatus, State.bare_of_payload _ payload, nonempty]
  rfl

/-- The position a moving carousel shows lies on the path of its move (log 10). -/
theorem State.shownPosition_of_moving {m : MoveRecord} (moving : w.positioner.move = some m) :
    (∃ k ≤ m.places, w.shownPosition = m.counted k) ∧ w.drawnInMotion = w.drawn := by
  refine ⟨⟨w.draw % (m.places + 1), Nat.lt_succ_iff.1 (Nat.mod_lt _ (Nat.succ_pos _)), ?_⟩, ?_⟩
  · rw [State.shownPosition, moving]
  · rw [State.drawnInMotion, moving]
    rfl

theorem exec_unknownKindRequest_of_takes (taken : s.Takes w kind tag p) (unlisted : catalogue.contains kind = false) :
    exec (.unknownKindRequest kind tag p) s = .next (w.answered kind tag .unknownKind .none).finish := by
  change execUnknownKindRequest kind tag p s = _
  rw [execUnknownKindRequest, State.command_of_working taken.1]
  simp only [unlisted]
  rw [if_neg Bool.false_ne_true, State.request_of_offer taken.2]
  rfl

/-- Settles O10, by the four requests of the link controller and the length check of each request without a payload. -/
theorem linkRequestsAnswered : Obligations.LinkRequestsAnswered := by
  refine ⟨⟨fun s w tag taken => ?ident, fun s w tag taken standing => ?standing,
    fun s w tag m taken moving => ?moving, fun s w kind tag p => exec_unknownKindRequest_of_takes⟩,
    fun s w kind tag p c payload taken listed => ?badLength⟩
  case ident => exact (State.requestCommand_of_takes taken (State.answerIdent [])).trans rfl
  case standing =>
    have ⟨shown, undrawn⟩ := State.shownPosition_of_standing standing
    refine ⟨_, ?_, rfl, rfl, shown, rfl, rfl, rfl, rfl⟩
    rw [exec_status_of_takes taken, undrawn]
    rfl
  case moving =>
    have ⟨⟨k, within, shown⟩, drawn⟩ := State.shownPosition_of_moving moving
    refine ⟨k, within, shown, ?_⟩
    rw [exec_status_of_takes taken, drawn]
  case badLength =>
    simp only [List.mem_cons, Prod.mk.injEq, List.not_mem_nil, or_false] at listed
    rcases listed with ⟨rfl, rfl⟩ | ⟨rfl, rfl⟩ | ⟨rfl, rfl⟩ | ⟨rfl, rfl⟩ | ⟨rfl, rfl⟩ | ⟨rfl, rfl⟩ | ⟨rfl, rfl⟩ |
      ⟨rfl, rfl⟩ | ⟨rfl, rfl⟩ | ⟨rfl, rfl⟩
    case inr.inl => exact exec_status_of_payload taken payload
    all_goals exact State.requestCommand_of_refuse taken (State.bare_of_payload _ payload)

end Sys2Proof.Machine
end

section
/-! Frames received and sent (O11). -/

namespace Sys2Proof.Machine

variable {s : State} {kind tag : Byte} {p : List Byte}

theorem crcBytes_length (bs : List Byte) : (crcBytes bs).length = 2 := rfl

theorem frameBytes_length : (frameBytes kind tag p).length = p.length + 6 := by
  simp [frameBytes, crcBytes_length]

theorem lengthByte_toNat (fits : p.length ≤ 240) : (BitVec.ofNat 8 p.length).toNat = p.length := by
  simp only [BitVec.toNat_ofNat]
  omega

/-- A whole frame with right check bytes is found at its start byte (R158, R159). -/
theorem scanAt_frameBytes (fits : p.length ≤ 240) : scanAt (frameBytes kind tag p) = .frame kind tag p [] := by
  have length_byte := lengthByte_toNat fits
  simp only [frameBytes, scanAt, List.cons_append, length_byte]
  rw [if_neg (by simp), if_neg (by omega), if_neg (by simp [crcBytes_length])]
  have body : (kind :: tag :: (p ++ crcBytes (BitVec.ofNat 8 p.length :: kind :: tag :: p))).take (p.length + 2) =
      kind :: tag :: p := by simp
  have check : (kind :: tag :: (p ++ crcBytes (BitVec.ofNat 8 p.length :: kind :: tag :: p))).drop (p.length + 2) =
      crcBytes (BitVec.ofNat 8 p.length :: kind :: tag :: p) := by simp
  rw [body, check, if_pos (List.take_of_length_le (crcBytes_length _).le)]
  simp [crcBytes_length]

/-- A frame cut short gathers (R159). -/
theorem scanAt_take_frameBytes (fits : p.length ≤ 240) {k : Nat} (started : 1 ≤ k)
    (short : k < (frameBytes kind tag p).length) : scanAt ((frameBytes kind tag p).take k) = .incomplete := by
  have length_byte := lengthByte_toNat fits
  rw [frameBytes_length] at short
  obtain ⟨j, rfl⟩ : ∃ j, k = j + 1 := ⟨k - 1, by omega⟩
  cases j with
  | zero => rfl
  | succ i =>
    simp only [frameBytes, scanAt, List.cons_append, List.take_succ_cons, length_byte]
    rw [if_neg (by simp), if_neg (by omega), if_pos]
    simp [crcBytes_length]
    omega

theorem scanBytes_nil (fuel : Nat) : scanBytes fuel [] = ([], []) := by
  cases fuel <;> rfl

theorem scanBytes_frameBytes (fits : p.length ≤ 240) (fuel : Nat) :
    scanBytes (fuel + 1) (frameBytes kind tag p) = ([{ kind := kind, tag := tag, payload := p }], []) := by
  simp [scanBytes, scanAt_frameBytes fits, scanBytes_nil]

/-- A start byte with a length above 240 is dropped, and so is the length byte behind it (R159). -/
theorem scanBytes_overlong {len : Byte} (long : 240 < len.toNat) (noStart : len ≠ 0xA5) :
    scanBytes 3 [0xA5, len] = ([], []) := by
  have other : len ≠ 165#8 := noStart
  simp [scanBytes, scanAt, long, other]

theorem State.withLink_self (s : State) (l : Link) (same : l = s.link) : ({ s with link := l } : State) = s := by
  rw [same]

/-- What an empty receiver makes of bytes, by what the search finds in them. -/
theorem State.receive_of_scan (empty : s.link.rx = []) {bytes : List Byte} {fs : List Frame} {left : List Byte}
    (scan : scanBytes (bytes.length + 1) bytes = (fs, left)) :
    s.receive bytes = { s with link := { s.link with rx := left, queue := fs.foldl queueFrame s.link.queue } } := by
  simp only [State.receive, empty, List.nil_append, scan]

/-- Settles O11, by what the search of the received bytes finds and by the frame in transmission. -/
theorem framesReceivedAndSent : Obligations.FramesReceivedAndSent := by
  refine ⟨fun s kind tag p working empty fits =>
      ⟨fun room => ?queued, fun full => ?discarded, fun k started short => ?gap, fun len long noStart => ?overlong⟩,
    fun s v working => ?cts, fun s r e rest working sending queue => ?reply,
    fun s k t n working sending => ?notice⟩
  case queued =>
    refine (State.command_of_working working _).trans ?_
    rw [State.receive_of_scan empty (scanBytes_frameBytes fits _), ← empty]
    have appended : queueFrame s.link.queue { kind := kind, tag := tag, payload := p } = _ := if_pos room
    simp [appended]
  case discarded =>
    refine (State.command_of_working working _).trans ?_
    have dropped : queueFrame s.link.queue { kind := kind, tag := tag, payload := p } = _ := if_neg full.not_gt
    rw [State.receive_of_scan empty (scanBytes_frameBytes fits _), ← empty]
    simp [dropped]
  case gap =>
    change execFrameGapTimeout _ s = _
    rw [execFrameGapTimeout, State.command_of_working working]
    have scan : scanBytes (((frameBytes kind tag p).take k).length + 1) ((frameBytes kind tag p).take k) =
        ([], (frameBytes kind tag p).take k) := by
      rw [scanBytes, scanAt_take_frameBytes fits started short]
    rw [State.receive_of_scan empty scan]
    simp [State.dropGathered, ← empty]
  case overlong =>
    refine (State.command_of_working working _).trans ?_
    rw [State.receive_of_scan empty (scanBytes_overlong long noStart), ← empty]
    rfl
  case cts =>
    change execCtsChange v s = _
    rw [execCtsChange, State.command_of_working working]
  case reply =>
    refine (State.command_of_working working _).trans ?_
    simp [State.endFrame, sending, queue]
  case notice =>
    refine (State.command_of_working working _).trans ?_
    simp [State.endFrame, sending]

end Sys2Proof.Machine
end

section
/-! ORDER_SUBMIT accepted, and its checks in their order (O12, O13). -/

namespace Sys2Proof.Machine

variable {s w : State} {tag : Byte} {p : List Byte} {f : Submission}

theorem submissionLength_iff {extra : Nat} :
    submissionLength p extra = true ↔ 12 ≤ p.length ∧ p.length = 12 + 3 * Bytes.field p 11 1 + extra := by
  simp [submissionLength]

/-- The length that the line count calls for holds the fixed part. -/
theorem submissionLength_of_length (length : p.length = 12 + 3 * Bytes.field p 11 1) :
    submissionLength p 0 = true :=
  submissionLength_iff.2 ⟨by omega, length⟩

theorem Book.full_eq_false {b : Book} :
    b.full = false ↔ b.orders.length < 32 ∧ b.admission < 4294967295 := by
  simp only [Book.full, Bool.or_eq_false_iff, decide_eq_false_iff_not, Nat.not_le]
  rfl

theorem Book.full_eq_true {b : Book} :
    b.full = true ↔ 32 ≤ b.orders.length ∨ 4294967295 ≤ b.admission := by
  simp only [Book.full, Bool.or_eq_true, decide_eq_true_iff]
  rfl

theorem State.heldLine_of_free {lines : List FormulaLine} (free : ∀ l ∈ lines, w.hasAttr (·.hold) l.code = false) :
    w.heldLine lines = none := by
  have unheld : lines.find? (fun l => w.hasAttr (·.hold) l.code) = none :=
    List.find?_eq_none.2 fun l hl => by simp [free l hl]
  rw [State.heldLine, unheld, Option.map_none]

theorem State.heldLine_of_first {before after : List FormulaLine} {l : FormulaLine}
    (held : w.hasAttr (·.hold) l.code = true) (free : ∀ m ∈ before, w.hasAttr (·.hold) m.code = false) :
    w.heldLine (before ++ l :: after) = some l.index := by
  have first : (before ++ l :: after).find? (fun l => w.hasAttr (·.hold) l.code) = some l :=
    List.find?_eq_some_iff_append.2 ⟨held, before, after, rfl, fun m hm => by simp [free m hm]⟩
  rw [State.heldLine, first, Option.map_some]

theorem PlanContext.fits_iff {q : PlanContext} : q.fits = true ↔ q.sum ≤ q.available := by
  simp [PlanContext.fits]

section DryPlan

variable {order round available : Nat} {sc : Scale} {lines : List FormulaLine} {plan : PlanContext} {i : Nat}

theorem State.dryPlan_of_held (held : w.heldLine lines = some i) :
    w.dryPlan order round sc lines available = .error (.codeHeld, .line i) := by
  rw [State.dryPlan, held]

theorem State.dryPlan_of_tooLarge (free : ∀ l ∈ lines, w.hasAttr (·.hold) l.code = false)
    (built : w.buildPlan order round sc lines available w.shownPosition = .error i) :
    w.dryPlan order round sc lines available = .error (.lineTooLarge, .line i) := by
  rw [State.dryPlan, State.heldLine_of_free free]
  simp only [built]

theorem State.dryPlan_of_overfill (free : ∀ l ∈ lines, w.hasAttr (·.hold) l.code = false)
    (built : w.buildPlan order round sc lines available w.shownPosition = .ok plan)
    (excess : plan.available < plan.sum) :
    w.dryPlan order round sc lines available = .error (.overfill, .overfill plan.sum plan.available) := by
  rw [State.dryPlan, State.heldLine_of_free free]
  simp only [built]
  exact if_neg fun fits => excess.not_ge (PlanContext.fits_iff.1 fits)

theorem State.dryPlan_of_fits (free : ∀ l ∈ lines, w.hasAttr (·.hold) l.code = false)
    (built : w.buildPlan order round sc lines available w.shownPosition = .ok plan)
    (fits : plan.sum ≤ plan.available) : w.dryPlan order round sc lines available = .ok plan := by
  rw [State.dryPlan, State.heldLine_of_free free]
  simp only [built]
  exact if_pos (PlanContext.fits_iff.2 fits)

end DryPlan

/-! ## The answer, check by check (R8) -/

theorem State.answerSubmit_of_badLength (bad : p.length < 12 ∨ p.length ≠ 12 + 3 * Bytes.field p 11 1) :
    State.answerSubmit p w = w.refuse .badLength := by
  have wrong : submissionLength p 0 = false := by
    rw [Bool.eq_false_iff, ne_eq, submissionLength_iff]
    omega
  rw [State.answerSubmit, wrong]
  rfl

theorem State.answerSubmit_of_badField (length : p.length = 12 + 3 * Bytes.field p 11 1)
    (unread : readSubmission p true = none) : State.answerSubmit p w = w.refuse .badField := by
  rw [State.answerSubmit, submissionLength_of_length length, unread]
  rfl

section Read

variable (length : p.length = 12 + 3 * Bytes.field p 11 1) (read : readSubmission p true = some f)

include length read

/-- What follows once the fields are read. -/
theorem State.answerSubmit_of_read :
    State.answerSubmit p w =
      if (w.order? f.number).isSome then w.refuse .duplicateOrder
      else if w.book.full then w.refuse .bookFull
      else
        match w.dryPlan f.number 0 f.scale f.lines (headroom f.cls f.fill) with
        | .error (st, body) => { state := w, status := st, body := body }
        | .ok plan =>
          { state := (w.takeIn f).retryBinding, status := .ok,
            body := .submitted (w.book.admission + 1) plan.counts } := by
  rw [State.answerSubmit, submissionLength_of_length length, read]
  rfl

theorem State.answerSubmit_of_duplicate (known : w.order? f.number ≠ none) :
    State.answerSubmit p w = w.refuse .duplicateOrder := by
  rw [State.answerSubmit_of_read length read, if_pos (Option.isSome_iff_ne_none.2 known)]

theorem State.answerSubmit_of_bookFull (new : w.order? f.number = none) (full : w.book.full = true) :
    State.answerSubmit p w = w.refuse .bookFull := by
  rw [State.answerSubmit_of_read length read, new, full]
  rfl

theorem State.answerSubmit_of_error {st : Status} {body : ReplyBody} (new : w.order? f.number = none)
    (room : w.book.full = false)
    (dry : w.dryPlan f.number 0 f.scale f.lines (headroom f.cls f.fill) = .error (st, body)) :
    State.answerSubmit p w = { state := w, status := st, body := body } := by
  rw [State.answerSubmit_of_read length read, new, room, dry]
  rfl

theorem State.answerSubmit_of_ok {plan : PlanContext} (new : w.order? f.number = none)
    (room : w.book.full = false)
    (dry : w.dryPlan f.number 0 f.scale f.lines (headroom f.cls f.fill) = .ok plan) :
    State.answerSubmit p w =
      { state := (w.takeIn f).retryBinding, status := .ok,
        body := .submitted (w.book.admission + 1) plan.counts } := by
  rw [State.answerSubmit_of_read length read, new, room, dry]
  rfl

end Read

/-- Settles O12: every check passes, so the order is taken in. -/
theorem submittedOrderIsAdmittedQueued : Obligations.SubmittedOrderIsAdmittedQueued := by
  intro s w tag p f plan taken length read new room admissions free built fits
  have dry := State.dryPlan_of_fits free built fits
  have answer := State.answerSubmit_of_ok length read new (Book.full_eq_false.2 ⟨room, admissions⟩) dry
  refine (State.requestCommand_of_answer taken answer).trans ?_
  simp only [State.takeIn, Submission.record, Route.all]

/-- Settles O13, check by check. -/
theorem submitChecksInOrder : Obligations.SubmitChecksInOrder := by
  intro s w tag p taken
  refine ⟨fun bad => ?length, fun length unread => ?field, fun f length read =>
    ⟨fun known => ?duplicate, fun new full => ?full, fun new room admissions => ?plan⟩⟩
  case length => exact State.requestCommand_of_refuse taken (State.answerSubmit_of_badLength bad)
  case field => exact State.requestCommand_of_refuse taken (State.answerSubmit_of_badField length unread)
  case duplicate => exact State.requestCommand_of_refuse taken (State.answerSubmit_of_duplicate length read known)
  case full =>
    have full := Book.full_eq_true.2 full
    exact State.requestCommand_of_refuse taken (State.answerSubmit_of_bookFull length read new full)
  case plan =>
    have open_book := Book.full_eq_false.2 ⟨room, admissions⟩
    have refused {st body} (dry : w.dryPlan f.number 0 f.scale f.lines (headroom f.cls f.fill) = .error (st, body)) :=
      State.requestCommand_of_answer taken (State.answerSubmit_of_error length read new open_book dry)
    refine ⟨fun before l after lines held free => ?held, fun free => ⟨fun i built => ?tooLarge,
      fun plan built excess => ?overfill⟩⟩
    case held => exact refused (State.dryPlan_of_held (by rw [lines, State.heldLine_of_first held free]))
    case tooLarge => exact refused (State.dryPlan_of_tooLarge free built)
    case overfill => exact refused (State.dryPlan_of_overfill free built excess)

end Sys2Proof.Machine
end
section
/-! What the queries report, and that they change nothing (O14). -/

namespace Sys2Proof.Machine

variable {s w : State} {kind tag : Byte} {p : List Byte}

theorem State.namedOrder_of_live {o : Order} {n : Nat} (length : p.length = 2) (number : Bytes.field p 0 2 = n)
    (live : w.order? n = some o) : w.namedOrder p = .ok o := by
  rw [State.namedOrder, if_neg (not_not.2 length), number, live]

theorem State.answerQuery_of_live {o : Order} (length : p.length = 2) (live : w.order? (Bytes.field p 0 2) = some o) :
    State.answerQuery p w = { state := w, status := .ok, body := .order (w.orderReport o) } := by
  rw [State.answerQuery, State.namedOrder_of_live length rfl live]

theorem State.answerQuery_state : (State.answerQuery p w).state = w := by
  unfold State.answerQuery
  split <;> rfl

/-! ## PLAN_PREVIEW (R64) -/

theorem PlanContext.entryReport_of_entry {q : PlanContext} {i : Nat} {e : Entry} (entry : q.entries[i]? = some e) :
    ∃ r, q.entryReport i = some r ∧ r.index = i ∧ r.entry = e := by
  rw [PlanContext.entryReport, entry]
  exact ⟨_, rfl, rfl, rfl⟩

theorem State.answerPreview_of_plan {f : Submission} {q : PlanContext} (fixed : 12 ≤ p.length)
    (length : p.length = 13 + 3 * Bytes.field p 11 1) (read : readSubmission p false = some f)
    (first : Bytes.field p (p.length - 1) 1 ≤ 47) (free : ∀ l ∈ f.lines, w.hasAttr (·.hold) l.code = false)
    (built : w.buildPlan 0 0 f.scale f.lines (headroom f.cls f.fill) w.shownPosition = .ok q) :
    State.answerPreview p w =
      { state := w.drawnInMotion, status := if q.fits then .ok else .overfill,
        body := q.preview (headroom f.cls f.fill) (Bytes.field p (p.length - 1) 1) } := by
  have right : submissionLength p 1 = true := submissionLength_iff.2 ⟨fixed, by omega⟩
  rw [State.answerPreview, right]
  simp only [read, State.heldLine_of_free free, built]
  rw [if_neg (by simp), if_neg first.not_gt]

/-- A preview leaves the state or takes the draw of a position shown in motion (log 10). -/
theorem State.answerPreview_state :
    (State.answerPreview p w).state = w ∨ (State.answerPreview p w).state = w.drawnInMotion := by
  unfold State.answerPreview
  dsimp only
  split
  · exact .inl rfl
  · split
    · exact .inl rfl
    · split
      · exact .inl rfl
      · split
        · exact .inl rfl
        · refine .inr ?_
          split <;> rfl

/-! ## CANISTER_QUERY, CLASS_QUERY and SETTINGS_QUERY -/

theorem readPosition_val (pos : Position) : readPosition pos.val = some pos := by
  simp [readPosition]

theorem State.answerCanisterQuery_of_configured {pos : Position} (length : p.length = 1)
    (position : Bytes.field p 0 1 = pos.val) (configured : w.canisters[pos].configured = true) :
    State.answerCanisterQuery p w = { state := w, status := .ok, body := (.canisterQuery pos w.canisters[pos]
      (w.canisters[pos].level - w.canisters[pos].floor) w.canisters[pos].condition
      (w.canisters[pos].finding w.canisters[pos].code w.canisters[pos].m) (w.inUse pos)) } := by
  rw [State.answerCanisterQuery, if_neg (not_not.2 length), position, readPosition_val]
  simp only [configured, Canister.usable]
  rfl

theorem exec_canisterQuery_of_takes {pos : Position} (taken : s.Takes w 0x21 tag p) (length : p.length = 1)
    (position : Bytes.field p 0 1 = pos.val) (configured : w.canisters[pos].configured = true) :
    exec (.canisterQuery tag p) s = .next (w.answered 0x21 tag .ok (.canisterQuery pos w.canisters[pos]
      (w.canisters[pos].level - w.canisters[pos].floor) w.canisters[pos].condition
      (w.canisters[pos].finding w.canisters[pos].code w.canisters[pos].m) (w.inUse pos))).finish := by
  refine (State.requestCommand_of_takes taken (State.answerCanisterQuery p)).trans ?_
  rw [State.answerCanisterQuery_of_configured length position configured]

theorem State.answerCanisterQuery_state : (State.answerCanisterQuery p w).state = w := by
  unfold State.answerCanisterQuery
  split
  · rfl
  · split <;> rfl

theorem State.bare_state {owner : State → Answer} (kept : (owner w).state = w) : (w.bare p owner).state = w := by
  unfold State.bare
  split
  · exact kept
  · rfl

/-- Every query leaves the state, but for the draw of a preview. -/
theorem exec_query_of_takes {c : Instr} (taken : s.Takes w kind tag p)
    (listed : (kind, c) ∈ [((0x11 : Byte), Instr.orderQuery tag p), (0x17, .planPreview tag p),
      (0x21, .canisterQuery tag p), (0x25, .classQuery tag p), (0x51, .settingsQuery tag p)]) :
    ∃ u st body, (u = w ∨ kind = 0x17 ∧ u = w.drawnInMotion) ∧
      exec c s = .next (u.answered kind tag st body).finish := by
  simp only [List.mem_cons, Prod.mk.injEq, List.not_mem_nil, or_false] at listed
  rcases listed with ⟨rfl, rfl⟩ | ⟨rfl, rfl⟩ | ⟨rfl, rfl⟩ | ⟨rfl, rfl⟩ | ⟨rfl, rfl⟩
  case inl =>
    exact ⟨_, _, _, .inl State.answerQuery_state, State.requestCommand_of_takes (owner := State.answerQuery p) taken⟩
  case inr.inl =>
    exact ⟨_, _, _, State.answerPreview_state.imp_right fun drawn => ⟨rfl, drawn⟩,
      State.requestCommand_of_takes (owner := State.answerPreview p) taken⟩
  case inr.inr.inl =>
    exact ⟨_, _, _, .inl State.answerCanisterQuery_state,
      State.requestCommand_of_takes (owner := State.answerCanisterQuery p) taken⟩
  case inr.inr.inr.inl =>
    exact ⟨_, _, _, .inl (State.bare_state rfl),
      State.requestCommand_of_takes (owner := State.answerClassQuery p) taken⟩
  case inr.inr.inr.inr =>
    exact ⟨_, _, _, .inl (State.bare_state rfl),
      State.requestCommand_of_takes (owner := State.answerSettingsQuery p) taken⟩

/-- Settles O14, query by query. -/
theorem queriesReportAndChangeNothing : Obligations.QueriesReportAndChangeNothing := by
  refine ⟨⟨fun s w tag p o taken length live => ?order, fun s w tag p f q taken fixed length read first free built =>
      ?preview, fun s w tag p pos taken length position configured => ?canister, fun s w tag taken => ?classes,
      fun s w tag taken => ?settings⟩,
    fun s w kind tag p c taken listed => exec_query_of_takes taken listed,
    fun w => ⟨fun standing => State.shownPosition_of_standing standing,
      fun m moving => State.shownPosition_of_moving moving⟩⟩
  case order =>
    refine (State.requestCommand_of_answer taken (State.answerQuery_of_live length live)).trans ?_
    rw [State.orderReport]
  case preview =>
    have answer := State.answerPreview_of_plan fixed length read first free built
    refine ⟨(List.range 5).filterMap fun k => q.entryReport (Bytes.field p (p.length - 1) 1 + k), ?reply,
      ?length, fun k short e entry => ?listed⟩
    case reply =>
      refine (State.requestCommand_of_answer taken answer).trans ?_
      simp only [PlanContext.fits, decide_eq_true_iff, PlanContext.preview]
    case length => exact (List.length_filterMap_le _ _).trans List.length_range.le
    case listed =>
      have ⟨r, reported, index, same⟩ := PlanContext.entryReport_of_entry entry
      exact ⟨r, List.mem_filterMap.2 ⟨k, List.mem_range.2 short, reported⟩, index, same⟩
  case canister =>
    exact exec_canisterQuery_of_takes taken length position configured
  case classes => exact (State.requestCommand_of_takes taken (State.answerClassQuery [])).trans rfl
  case settings => exact (State.requestCommand_of_takes taken (State.answerSettingsQuery [])).trans rfl

end Sys2Proof.Machine
end
section
/-! A freed order, and the requests that put an order in the return slot (O16, O17). -/

namespace Sys2Proof.Machine

variable {s w : State} {tag : Byte} {p : List Byte} {n : Nat} {o : Order}

/-! ## Freeing -/

theorem State.freeOrder_of_live (live : s.order? n = some o) (reason : EndReason) :
    s.freeOrder n reason = { s with
      notices := queueNotice s.notices (.orderEnded n o.admission reason o.delivered)
      book := { s.book with
        orders := s.book.orders.filter fun q => q.number != n
        slot := if s.book.slot = some n then none else s.book.slot }
      lanes := Vector.ofFn fun i : Lane => s.lanes[i].freed n } := by
  rw [State.freeOrder, live]
  rfl

theorem getElem_ofFn_fin {α : Type} {k : Nat} (f : Fin k → α) (i : Fin k) : (Vector.ofFn f)[i] = f i :=
  Vector.getElem_ofFn i.isLt

theorem State.freeOrder_lane (live : s.order? n = some o) (reason : EndReason) (l : Lane) :
    (s.freeOrder n reason).lanes[l] = s.lanes[l].freed n := by
  rw [State.freeOrder_of_live live]
  exact getElem_ofFn_fin _ l

theorem LaneRecord.freed_of_other {l : LaneRecord} (other : l.tin.map TinRef.order ≠ some n) : l.freed n = l := by
  unfold LaneRecord.freed
  split
  · rfl
  · next t tin => exact if_neg fun same => other (by rw [tin, Option.map_some, same])

theorem LaneRecord.freed_of_standing {l : LaneRecord} (own : l.tin.map TinRef.order = some n)
    (standing : l.state ∈ [LaneState.collect, .check]) :
    l.freed n = { l with state := if l.present then .clearing else .empty, tin := none } := by
  obtain ⟨t, tin, rfl⟩ := Option.map_eq_some_iff.1 own
  simp only [List.mem_cons, List.not_mem_nil, or_false] at standing
  rcases standing with state | state
  · simp [LaneRecord.freed, tin, state]
  · simp [LaneRecord.freed, tin, state]

/-- Settles O16, by what is written and by what becomes of each lane. -/
theorem freedOrderLeavesNothingBehind : Obligations.FreedOrderLeavesNothingBehind := by
  intro s n o reason live
  have lane := State.freeOrder_lane live reason
  refine ⟨?written, State.order?_freeOrder .., fun l => ⟨fun other => ?other, fun own standing => ?own⟩⟩
  case written => rw [State.freeOrder_of_live live]
  case other => rw [lane, LaneRecord.freed_of_other other]
  case own => rw [lane, LaneRecord.freed_of_standing own standing]

/-! ## ORDER_APPROVE, ORDER_RESUME and ORDER_CORRECT accepted -/

theorem State.slotChecks_of_free {st : OrderState} (live : w.order? n = some o) (state : o.state = st)
    (slot : w.book.slot = none) : w.slotChecks n st = .ok o := by
  simp [State.slotChecks, live, state, slot]

theorem State.answerApprove_of_check (length : p.length = 2) (number : Bytes.field p 0 2 = n)
    (live : w.order? n = some o) (state : o.state = .check) (slot : w.book.slot = none) :
    State.answerApprove p w = ((w.modOrder n Order.approved).enterSlot n).accept := by
  rw [State.answerApprove, if_neg (not_not.2 length), number, State.slotChecks_of_free live state slot]
  simp only [State.order?_number live]

theorem State.answerResume_of_interrupted (length : p.length = 2) (number : Bytes.field p 0 2 = n)
    (live : w.order? n = some o) (state : o.state = .interrupted) (slot : w.book.slot = none)
    (known : o.flags.amountUnknown = false) (unlidded : o.flags.lidded = false) :
    State.answerResume p w = (w.enterSlot n).accept := by
  rw [State.answerResume, if_neg (not_not.2 length), number, State.slotChecks_of_free live state slot]
  simp only [State.order?_number live, known, unlidded]
  rfl

theorem codesInRange_iff {lines : List FormulaLine} :
    codesInRange lines = true ↔ ∀ l ∈ lines, 1 ≤ l.code ∧ l.code ≤ 250 := by
  simp [codesInRange]

theorem State.answerCorrect_of_check {q : PlanContext} (some_line : 1 ≤ Bytes.field p 2 1)
    (few : Bytes.field p 2 1 ≤ 6) (fixed : 3 ≤ p.length) (length : p.length = 3 + 3 * Bytes.field p 2 1)
    (codes : ∀ l ∈ linesAt p 3 (Bytes.field p 2 1), 1 ≤ l.code ∧ l.code ≤ 250) (number : Bytes.field p 0 2 = n)
    (live : w.order? n = some o) (state : o.state = .check) (slot : w.book.slot = none) (rounds : o.rounds.length < 4)
    (dry : w.dryPlan o.number o.rounds.length .correction (mergeLines (linesAt p 3 (Bytes.field p 2 1)))
      o.available = .ok q) :
    State.answerCorrect p w =
      { state := (w.modOrder n fun o => o.corrected (mergeLines (linesAt p 3 (Bytes.field p 2 1)))).enterSlot n,
        status := .ok, body := .corrected o.rounds.length q.counts } := by
  have right_length : ¬(p.length < 3 ∨ p.length ≠ 3 + 3 * Bytes.field p 2 1) := by omega
  have in_range : ¬(Bytes.field p 2 1 < 1 ∨ 6 < Bytes.field p 2 1 ∨
      (!codesInRange (linesAt p 3 (Bytes.field p 2 1))) = true) := by
    simp only [codesInRange_iff.2 codes]
    simp
    omega
  rw [State.answerCorrect]
  simp only [right_length, in_range, if_false, number, State.slotChecks_of_free live state slot, rounds.not_ge, dry]
  simp only [State.order?_number live]

/-- Settles O17: the checks pass, and the order enters the slot. -/
theorem returnSlotRequestsAccepted : Obligations.ReturnSlotRequestsAccepted := by
  refine ⟨fun s w tag p n o taken length number live state slot => ?approve,
    fun s w tag p n o taken length number live state slot known unlidded => ?resume,
    fun s w tag p n o q taken some_line few fixed length codes number live state slot rounds dry => ?correct⟩
  case approve =>
    exact State.requestCommand_of_accept taken (owner := State.answerApprove p)
      (State.answerApprove_of_check length number live state slot)
  case resume =>
    exact State.requestCommand_of_accept taken (owner := State.answerResume p)
      (State.answerResume_of_interrupted length number live state slot known unlidded)
  case correct =>
    refine (State.requestCommand_of_takes taken (State.answerCorrect p)).trans ?_
    rw [State.answerCorrect_of_check some_line few fixed length codes number live state slot rounds dry]
    rfl

end Sys2Proof.Machine
end
section
/-! ORDER_CANCEL by where the tin is (O15). -/

namespace Sys2Proof.Machine

variable {s w : State} {tag : Byte} {p : List Byte} {n : Nat} {o : Order}

/-- A cancel that is accepted, by what it does to the order it names. -/
theorem exec_orderCancel_of_ok {u : State} (taken : s.Takes w 0x12 tag p) (length : p.length = 2)
    (number : Bytes.field p 0 2 = n) (live : w.order? n = some o) (done : w.cancelOrder o = .ok u) :
    exec (.orderCancel tag p) s = .next (u.answered 0x12 tag .ok .none).finish := by
  refine State.requestCommand_of_accept taken (owner := State.answerCancel p) ?_
  simp only [State.answerCancel, State.namedOrder_of_live length number live, done]

theorem exec_orderCancel_of_error {st : Status} (taken : s.Takes w 0x12 tag p) (length : p.length = 2)
    (number : Bytes.field p 0 2 = n) (live : w.order? n = some o) (refused : w.cancelOrder o = .error st) :
    exec (.orderCancel tag p) s = .next (w.answered 0x12 tag st .none).finish := by
  refine State.requestCommand_of_refuse taken (owner := State.answerCancel p) ?_
  simp only [State.answerCancel, State.namedOrder_of_live length number live, refused]

/-! ## What a cancel does to an order (R14 to R16) -/

theorem State.cancelOrder_of_ended (ended : o.pendingEnd ≠ none) : w.cancelOrder o = .ok w :=
  if_pos (Option.isSome_iff_ne_none.2 ended)

section Open

variable (unended : o.pendingEnd = none)

include unended

theorem State.cancelOrder_of_off_line (state : o.state ∈ [OrderState.queued, .returning, .check, .interrupted]) :
    w.cancelOrder o = .ok (w.freeOrder o.number .cancelled) := by
  simp only [List.mem_cons, List.not_mem_nil, or_false] at state
  rcases state with state | state | state | state <;> simp [State.cancelOrder, unended, state]

theorem State.cancelOrder_of_past (state : o.state ∈ [OrderState.dispensed, .mixing, .lidding, .outlet]) :
    w.cancelOrder o = .error .tooLate := by
  simp only [List.mem_cons, List.not_mem_nil, or_false] at state
  rcases state with state | state | state | state <;> simp [State.cancelOrder, unended, state]

theorem State.cancelOrder_of_intake (state : o.state = .bound) (bound : w.intake.bound = some o.number) :
    w.cancelOrder o = .ok (w.cancelAtIntake o) := by
  simp [State.cancelOrder, unended, state, bound]

theorem State.cancelOrder_of_station
    (place : o.state ∈ [OrderState.dispensing, .manual] ∨ o.state = .bound ∧ w.intake.bound ≠ some o.number) :
    w.cancelOrder o = .ok (w.markCancelled o.number).cancelAtStation := by
  simp only [List.mem_cons, List.not_mem_nil, or_false] at place
  rcases place with (state | state) | ⟨state, away⟩
  · simp [State.cancelOrder, unended, state]
  · simp [State.cancelOrder, unended, state]
  · simp [State.cancelOrder, unended, state, away]

theorem State.cancelOrder_of_held {f : FaultRecord} (state : o.state = .held) (record : o.fault = some f) :
    w.cancelOrder o = if f.station = .dispense then .ok (w.cancelHeld o.number f) else .error .tooLate := by
  simp [State.cancelOrder, unended, state, record]

end Open

/-! ## The tin at the intake, bound anew or cleared (R11, R14) -/

/-- The state a freed order leaves at the intake, its transfer request withdrawn. -/
theorem State.withdrawn_freeOrder (reason : EndReason) :
    (w.freeOrder n reason).setIntakeRequest false =
      { w.freeOrder n reason with conveyor := { w.conveyor with intakeRequest := false } } := by
  rw [State.setIntakeRequest, State.freeOrder_eq]

theorem State.freeOrder_intake (reason : EndReason) : (w.freeOrder n reason).intake = w.intake := by
  rw [State.freeOrder_eq]

theorem State.cancelAtIntake_of_tinted (tinted : o.receivedColourant o.partialPlan = true) :
    w.cancelAtIntake o = ((w.freeOrder o.number .cancelled).setIntakeRequest false).modIntake
      fun i => { i with state := .clearing, bound := none } := by
  simp only [State.cancelAtIntake, tinted, if_true]

theorem State.cancelAtIntake_of_clean (clean : o.receivedColourant o.partialPlan = false) :
    w.cancelAtIntake o = (((w.freeOrder o.number .cancelled).setIntakeRequest false).modIntake
      fun i => { i with lidded := false, bound := none }).takeTin := by
  simp [State.cancelAtIntake, clean]

theorem State.takeTin_of_withheld (withheld : s.startsAllowed = false) :
    s.takeTin = s.modIntake fun i => { i with state := .waiting, bound := none } := by
  simp [State.takeTin, withheld]

theorem State.takeTin_of_bindable {q : Order} {b : Bool} (allowed : s.startsAllowed = true)
    (found : s.bindable s.intake.cls = some (q, b)) : s.takeTin = s.bindOrder q.number b := by
  simp [State.takeTin, allowed, State.attemptBinding, found]

theorem State.takeTin_of_none (allowed : s.startsAllowed = true) (missing : s.bindable s.intake.cls = none) :
    s.takeTin = (s.modIntake fun i => { i with state := .refused, reason := .noOrderForTin, bound := none }).notify
      (.noOrderForTin .intake s.intake.cls) := by
  simp [State.takeTin, allowed, State.attemptBinding, missing]

/-! ## The tin at the station (R15) -/

/-- The changed record of a live order is read back under its number. -/
theorem State.order?_modOrder_self {f : Order → Order} (live : w.order? n = some o)
    (keeps : ∀ q, (f q).number = q.number) : (w.modOrder n f).order? n = some (f o) := by
  rw [State.order?_modOrder _ _ _ _ keeps, live, Option.map_some, if_pos rfl]

theorem State.markCancelled_eq (live : w.order? n = some o) (unended : o.pendingEnd = none) :
    w.markCancelled n =
      (w.setPendingEnd n .cancelled).notify (.orderState n o.state (o.tin.getD 0) (some .cancelled)) := by
  have marked : (w.setPendingEnd n .cancelled).order? n = some { o with pendingEnd := some .cancelled } := by
    rw [State.setPendingEnd, State.order?_modOrder_self live (by intro; rfl), unended]
    rfl
  rw [State.markCancelled, State.notifyOrder, marked]
  simp only [Order.stateNotice, State.order?_number live]

theorem State.cancelAtStation_of_running
    (runs : s.station.state = .stroking ∨ s.station.state = .receiving ∧ s.station.arrivalWaits = false) :
    s.cancelAtStation = s := by
  rcases runs with state | ⟨state, coming⟩
  · simp [State.cancelAtStation, state]
  · simp [State.cancelAtStation, state, coming]

theorem State.cancelAtStation_of_still (still : s.station.state ≠ .stroking)
    (arrived : s.station.state = .receiving → s.station.arrivalWaits = true) :
    s.cancelAtStation = s.enterClearing := by
  unfold State.cancelAtStation
  split
  · next state => exact absurd state still
  · next state => exact if_pos (arrived state)
  · rfl

/-- Settles O15, by the order's state and where its tin stands. -/
theorem cancelByWhereTheTinIs : Obligations.CancelByWhereTheTinIs := by
  intro s w tag p n o taken length number live
  have own := State.order?_number live
  have accepted {u} (done : w.cancelOrder o = .ok u) := exec_orderCancel_of_ok taken length number live done
  have refused {st} (done : w.cancelOrder o = .error st) := exec_orderCancel_of_error taken length number live done
  refine ⟨fun ended => accepted (State.cancelOrder_of_ended ended), fun unended => ⟨fun state => ?freed,
    fun state => refused (State.cancelOrder_of_past unended state), fun u state bound hu => ?intake,
    fun u place hu => ?station, fun f state record => ?held⟩⟩
  case freed =>
    have done := State.cancelOrder_of_off_line (w := w) unended state
    rw [own] at done
    exact accepted done
  case intake =>
    have done := State.cancelOrder_of_intake unended state (bound.trans (congrArg some own.symm))
    have withdrawn : (w.freeOrder n .cancelled).setIntakeRequest false = u := State.withdrawn_freeOrder _ ▸ hu.symm
    have intake : u.intake = w.intake := by rw [hu]; exact State.freeOrder_intake _
    have anew : (u.modIntake fun i => { i with lidded := false, bound := none }).bindable
        (u.modIntake fun i => { i with lidded := false, bound := none }).intake.cls = u.bindable w.intake.cls := by
      rw [← intake]
      rfl
    refine ⟨fun tinted => ?tinted, fun clean withheld => ?waiting, fun q b clean allowed found => ?bound,
      fun clean allowed missing => ?refused⟩
    case tinted =>
      rw [State.cancelAtIntake_of_tinted tinted, own, withdrawn, State.modIntake, intake] at done
      exact accepted done
    all_goals rw [State.cancelAtIntake_of_clean clean, own, withdrawn] at done
    case waiting =>
      rw [State.takeTin_of_withheld (by exact withheld)] at done
      simp only [State.modIntake, intake] at done
      exact accepted done
    case bound =>
      rw [State.takeTin_of_bindable (by exact allowed) (anew.trans found)] at done
      simp only [State.modIntake, intake] at done
      exact accepted done
    case refused =>
      rw [State.takeTin_of_none (by exact allowed) (anew.trans missing)] at done
      simp only [State.modIntake, intake] at done
      exact accepted done
  case station =>
    have done := State.cancelOrder_of_station (w := w) unended (own.symm ▸ place)
    rw [own, State.markCancelled_eq live unended, ← hu] at done
    have station : u.station = w.station := by rw [hu]; rfl
    refine ⟨fun runs => ?runs, fun still arrived => ?clears⟩
    case runs =>
      rw [State.cancelAtStation_of_running (station.symm ▸ runs)] at done
      exact accepted done
    case clears =>
      rw [State.cancelAtStation_of_still (station.symm ▸ still) (station.symm ▸ arrived)] at done
      exact accepted done
  case held =>
    have done := State.cancelOrder_of_held (w := w) unended state record
    refine ⟨fun elsewhere => refused (done.trans (if_neg elsewhere)), fun station => ?station⟩
    have done := done.trans (if_pos station)
    rw [own] at done
    exact accepted done

end Sys2Proof.Machine
end

section
/-! Fault records and the lamps (O18). -/

namespace Sys2Proof.Machine

/-! ## Lamps -/

/-- The worst of some lamps, from a first one (R152). -/
theorem Lamp.foldl_worse (lamps : List Lamp) (a : Lamp) :
    lamps.foldl Lamp.worse a =
      if .fast ∈ a :: lamps then .fast else if .slow ∈ a :: lamps then .slow
      else if .steady ∈ a :: lamps then .steady else .off := by
  induction lamps generalizing a with
  | nil => cases a <;> rfl
  | cons b rest ih =>
    rw [List.foldl_cons, ih]
    cases a <;> cases b <;> simp [Lamp.worse]

theorem LaneState.lamp_ne_fast (l : LaneState) : l.lamp ≠ .fast := by
  cases l <;> simp [LaneState.lamp]

theorem LaneState.lamp_eq_slow {l : LaneState} : l.lamp = .slow ↔ l ∈ [LaneState.check, .clearing] := by
  cases l <;> simp [LaneState.lamp]

theorem LaneState.lamp_eq_steady {l : LaneState} : l.lamp = .steady ↔ l ∈ [LaneState.reserved, .collect] := by
  cases l <;> simp [LaneState.lamp]

variable {s : State} {d : Dest} {n : Nat} {o : Order}

theorem State.mem_laneLamps {l : Lamp} :
    l ∈ s.lanes.toList.map (fun r => r.state.lamp) ↔ ∃ i : Lane, s.lanes[i].state.lamp = l := by
  simp only [List.mem_map, Vector.mem_toList_iff, Vector.mem_iff_getElem, Fin.exists_iff, Fin.getElem_fin]
  constructor
  · rintro ⟨r, ⟨i, inside, rfl⟩, lamp⟩
    exact ⟨i, inside, lamp⟩
  · rintro ⟨i, inside, lamp⟩
    exact ⟨_, ⟨i, inside, rfl⟩, lamp⟩

theorem State.faultAt_iff : s.faultAt d = true ↔ ∃ o ∈ s.book.orders, ∃ f, o.fault = some f ∧ f.station = d := by
  rw [State.faultAt, List.any_eq_true]
  refine exists_congr fun o => and_congr_right fun _ => ?_
  cases o.fault <;> simp

theorem State.lamp_of_faultAt (named : s.faultAt d = true) : s.lamp d = .fast := if_pos named

/-- The outlet's lamp when no record names it. -/
theorem State.lamp_outlet (unnamed : ¬ s.faultAt .outlet = true) :
    s.lamp .outlet = if ∃ i : Lane, s.lanes[i].state ∈ [LaneState.check, .clearing] then .slow
      else if ∃ i : Lane, s.lanes[i].state ∈ [LaneState.reserved, .collect] then .steady else .off := by
  have no_fast : ¬ .fast ∈ Lamp.off :: s.lanes.toList.map fun r => r.state.lamp := by
    rw [List.mem_cons, State.mem_laneLamps]
    rintro (off | ⟨i, fast⟩)
    · simp at off
    · exact LaneState.lamp_ne_fast _ fast
  refine (if_neg unnamed).trans ((Lamp.foldl_worse _ _).trans ((if_neg no_fast).trans ?_))
  simp only [List.mem_cons, State.mem_laneLamps, reduceCtorEq, false_or, LaneState.lamp_eq_slow,
    LaneState.lamp_eq_steady]

/-! ## The record of a fault -/

theorem State.order?_notify (b : NoticeBody) (m : Nat) : (s.notify b).order? m = s.order? m := rfl

theorem State.notifyOrder_of_live (live : s.order? n = some o) : s.notifyOrder n = s.notify o.stateNotice := by
  rw [State.notifyOrder, live]

theorem State.order?_notifyOrder (m : Nat) : (s.notifyOrder n).order? m = s.order? m := by
  rw [State.notifyOrder_eq]
  rfl

theorem State.order?_modOrder_of_ne {f : Order → Order} (keeps : ∀ q, (f q).number = q.number) {m : Nat}
    (other : m ≠ n) : (s.modOrder n f).order? m = s.order? m := by
  rw [State.order?_modOrder _ _ _ _ keeps]
  simp [other]

theorem State.hold_of_free (live : s.order? n = some o) (free : o.fault = none) (d : Dest) (k : FaultKind) (x : Bool)
    (i : Option Nat) :
    s.hold n d k x i = (s.modOrder n fun q => { q with
      fault := some { station := d, kind := k, onTransfer := x, entry := i,
                      allowed := k.actions d x (s.remakeStored q) }
      beforeHold := some q.state, state := .held }).notify (.orderState n .held (o.tin.getD 0) o.pendingEnd) := by
  have held := State.order?_modOrder_self (f := fun q => { q with
    fault := some { station := d, kind := k, onTransfer := x, entry := i,
                    allowed := k.actions d x (s.remakeStored q) }
    beforeHold := some q.state, state := .held }) live (by intro; rfl)
  rw [State.hold, live]
  simp only [free, Option.isSome_none, Bool.false_eq_true, if_false]
  rw [State.notifyOrder_of_live held]
  simp only [Order.stateNotice, State.order?_number live]

theorem State.unhold_of_held {st : OrderState} (live : s.order? n = some o) (held : o.fault ≠ none)
    (before : o.beforeHold = some st) :
    s.unhold n = (s.modOrder n fun q => { q with
      fault := none, state := q.beforeHold.getD q.state, beforeHold := none }).notify
        (.orderState n st (o.tin.getD 0) o.pendingEnd) := by
  have freed := State.order?_modOrder_self (f := fun q => { q with
    fault := none, state := q.beforeHold.getD q.state, beforeHold := none }) live (by intro; rfl)
  rw [State.unhold, live]
  simp only [Option.isSome_iff_ne_none.2 held, if_true]
  rw [State.notifyOrder_of_live freed]
  simp only [Order.stateNotice, before, Option.getD_some, State.order?_number live]

theorem State.order?_hold_of_ne {m : Nat} (other : m ≠ n) (d : Dest) (k : FaultKind) (x : Bool) (i : Option Nat) :
    (s.hold n d k x i).order? m = s.order? m := by
  unfold State.hold
  split
  · rfl
  · split
    · rfl
    · rw [State.order?_notifyOrder, State.order?_modOrder_of_ne (by intro; rfl) other]

theorem State.order?_unhold_of_ne {m : Nat} (other : m ≠ n) : (s.unhold n).order? m = s.order? m := by
  unfold State.unhold
  split
  · rfl
  · split
    · rw [State.order?_notifyOrder, State.order?_modOrder_of_ne (by intro; rfl) other]
    · rfl

theorem State.remakeStored_iff : s.remakeStored o = true ↔ o.rounds.length ≤ 1 ∧ s.station.plan ≠ none := by
  simp [State.remakeStored, Option.isSome_iff_ne_none]

/-- The actions a fault allows, kind by kind (R153). -/
theorem FaultKind.actions_by_kind (d : Dest) (x m : Bool) (r : List Action)
    (orRemake : r = if m then [.remake] else []) :
    (∀ k ∈ [FaultKind.under, .stall, .unseated], k.actions d x m = [.retryShot, .skipShot, .scrap] ++ r) ∧
    (∀ k ∈ [FaultKind.over, .sensor, .unweighed], k.actions d x m = [.accept, .scrap] ++ r) ∧
    FaultKind.actions .lost d x m = [.retry, .scrap] ++ r ∧ FaultKind.actions .plan d x m = [.cancel, .release] ∧
    FaultKind.actions .lidded d x m = [.scrap] ∧ FaultKind.actions .jam d x m = [.confirm, .scrap] ∧
    (∀ k ∈ [FaultKind.clamp, .imbalance], k.actions d x m = [.retry, .scrap]) ∧
    FaultKind.actions .seat d x m = [.retry, .pass, .scrap] ∧
    FaultKind.actions .estop d x m = [.retry, .scrap] ++ (if d = .dispense ∧ x = false then r else []) := by
  subst orRemake
  simp only [List.forall_mem_cons, List.not_mem_nil, false_imp_iff, forall_true_iff, and_true]
  refine ⟨⟨rfl, rfl, rfl⟩, ⟨rfl, rfl, rfl⟩, rfl, rfl, rfl, rfl, ⟨rfl, rfl⟩, rfl, ?_⟩
  by_cases station : d = .dispense ∧ x = false
  · simp [FaultKind.actions, station]
  · simp only [FaultKind.actions, Bool.not_eq_true', station, if_false, List.append_nil]

/-- Settles O18: the actions and the lamps read off, the record stored and removed by the change of the order's
record. -/
theorem faultRecordHoldsAndReleasesTheOrder : Obligations.FaultRecordHoldsAndReleasesTheOrder := by
  refine ⟨fun s o => State.remakeStored_iff, FaultKind.actions_by_kind, fun s d => ⟨fun o live f record station =>
      ?named, fun unnamed => ⟨fun l state hd => ?station, fun b hd => ?bay, fun l state hd => ?lidder, fun hd =>
      ?outlet⟩, fun l state => ?intake⟩, fun s n o live distinct => ⟨fun d k x i free => ?held,
      fun d k x i standing => ?kept, fun st standing before => ?freed, fun m d k x i other => ?others⟩⟩
  case named => exact State.lamp_of_faultAt (State.faultAt_iff.2 ⟨o, live, f, record, station⟩)
  case intake =>
    simp only [List.mem_cons, Prod.mk.injEq, List.not_mem_nil, or_false] at state
    rw [State.intakeLamp]
    rcases state with ⟨h, rfl⟩ | ⟨h, rfl⟩ | ⟨h, rfl⟩ | ⟨h, rfl⟩ | ⟨h, rfl⟩ <;> rw [h] <;> rfl
  case held =>
    rw [State.hold_of_free live free, State.order?_notify, State.order?_modOrder_self live (by intro; rfl)]
    exact ⟨rfl, rfl⟩
  case kept => exact State.hold_of_fault live (Option.isSome_iff_ne_none.2 standing) ..
  case freed =>
    rw [State.unhold_of_held live standing before, State.order?_notify,
      State.order?_modOrder_self live (by intro; rfl), before]
    exact ⟨rfl, rfl⟩
  case others => exact ⟨State.order?_hold_of_ne other .., State.order?_unhold_of_ne other⟩
  all_goals
    have unnamed : ¬ s.faultAt d = true := fun named =>
      have ⟨o, live, f, record, station⟩ := State.faultAt_iff.1 named
      unnamed o live f record station
    subst hd
  case station =>
    refine (if_neg unnamed).trans ?_
    simp only [List.mem_cons, Prod.mk.injEq, List.not_mem_nil, or_false] at state
    cases h : s.station.state <;> simp [h] at state <;> rw [state] <;> rfl
  case bay =>
    have lamp : s.lamp (.bay b) = (s.bay b).lamp := (if_neg unnamed).trans (by cases b <;> rfl)
    rw [lamp]
    refine ⟨fun empty => ?empty, fun working => ?working, fun clearing => by simp [Bay.lamp, clearing],
      fun failed => ?failed⟩
    case empty => cases reserved : (s.bay b).reservation <;> simp [Bay.lamp, empty, reserved]
    case working => cases h : (s.bay b).state <;> simp [h] at working <;> simp [Bay.lamp, h]
    case failed => cases h : (s.bay b).state <;> simp [h] at failed <;> simp [Bay.lamp, h]
  case lidder =>
    refine (if_neg unnamed).trans ?_
    simp only [List.mem_cons, Prod.mk.injEq, List.not_mem_nil, or_false] at state
    cases h : s.lidder.state <;> simp [h] at state <;> rw [state] <;> rfl
  case outlet => exact State.lamp_outlet unnamed

end Sys2Proof.Machine
end
section
/-! RESOLVE: its checks in their order, and its actions at the dispense station (O19, O20). -/

namespace Sys2Proof.Machine

variable {s w : State} {tag : Byte} {p : List Byte} {a : Action} {o : Order} {f : FaultRecord} {st : Status}

theorem Action.owns_of_length (length : p.length ≠ 3) : a.owns p = true := by
  simp [Action.owns, length]

theorem Action.owns_of_code (code : ∀ b, Action.ofCode (Bytes.field p 2 1) = some b → b = a) : a.owns p = true := by
  unfold Action.owns
  split
  · next b hb => simp [code b hb]
  · simp

theorem State.answerResolve_of_error {act : Order → FaultRecord → State → State}
    (refused : w.resolveChecks a p = .error st) : State.answerResolve a act p w = w.refuse st := by
  rw [State.answerResolve, refused]

/-- An order that RELEASE would free without a record. -/
theorem State.answerRelease_of_held
    (held : ∀ o, w.order? (Bytes.field p 0 2) = some o →
      ¬(p.length = 3 ∧ Action.ofCode (Bytes.field p 2 1) = some .release ∧ o.state = .interrupted)) :
    State.answerRelease p w = State.answerResolve .release State.actRelease p w := by
  unfold State.answerRelease
  split
  · next o live => exact if_neg (held o live)
  · rfl

theorem State.resolveCommand_of_refuse {owner : List Byte → State → Answer} (taken : s.Takes w 0x15 tag p)
    (owned : a.owns p = true) (answer : owner p w = w.refuse st) :
    s.resolveCommand a tag p owner = .next (w.answered 0x15 tag st .none).finish := by
  rw [State.resolveCommand_of_takes taken owned, answer]
  rfl

theorem State.resolveCommand_of_accept {owner : List Byte → State → Answer} {u : State} (taken : s.Takes w 0x15 tag p)
    (owned : a.owns p = true) (answer : owner p w = u.accept) :
    s.resolveCommand a tag p owner = .next (u.answered 0x15 tag .ok .none).finish := by
  rw [State.resolveCommand_of_takes taken owned, answer]
  rfl

/-- A RESOLVE row whose payload is its own is refused by the check that fails (R154). -/
theorem exec_row_of_error (taken : s.Takes w 0x15 tag p) (owned : a.owns p = true)
    (held : a = .release → ∀ o, w.order? (Bytes.field p 0 2) = some o →
      ¬(p.length = 3 ∧ Action.ofCode (Bytes.field p 2 1) = some .release ∧ o.state = .interrupted))
    (refused : w.resolveChecks a p = .error st) :
    exec (a.row tag p) s = .next (w.answered 0x15 tag st .none).finish := by
  cases a
  case release =>
    have answer := (State.answerRelease_of_held (held rfl)).trans (State.answerResolve_of_error refused)
    exact State.resolveCommand_of_refuse taken owned answer
  all_goals
    exact State.resolveCommand_of_refuse taken owned (State.answerResolve_of_error refused)

/-! ## The checks -/

theorem State.resolveChecks_of_length (length : p.length ≠ 3) : w.resolveChecks a p = .error .badLength :=
  if_pos length

theorem State.resolveChecks_of_code (length : p.length = 3) (code : Action.ofCode (Bytes.field p 2 1) = none) :
    w.resolveChecks a p = .error .badField := by
  rw [State.resolveChecks, if_neg (not_not.2 length), if_pos code]

theorem State.resolveChecks_of_action (length : p.length = 3) (code : Action.ofCode (Bytes.field p 2 1) = some a) :
    w.resolveChecks a p = match w.order? (Bytes.field p 0 2) with
      | none => .error .noSuchOrder
      | some o =>
        match o.fault with
        | none => .error .wrongState
        | some f => if f.allowed.contains a then .ok (o, f) else .error .actionNotAllowed := by
  have coded : ¬ Action.ofCode (Bytes.field p 2 1) = none := by simp [code]
  rw [State.resolveChecks]
  exact (if_neg (not_not.2 length)).trans (if_neg coded)

/-- Settles O19, check by check. -/
theorem resolveChecksInOrder : Obligations.ResolveChecksInOrder := by
  intro s w tag p a taken
  refine ⟨fun length => ?length, fun length code => ?code, fun length code => ⟨fun unknown => ?unknown,
    fun o live free held => ?free, fun o f live record barred held => ?barred⟩⟩
  case length =>
    exact exec_row_of_error taken (Action.owns_of_length length) (fun _ _ _ ⟨right, _⟩ => length right)
      (State.resolveChecks_of_length length)
  case code =>
    exact exec_row_of_error taken (Action.owns_of_code (by simp [code])) (by simp [code])
      (State.resolveChecks_of_code length code)
  all_goals
    have owned : a.owns p = true := Action.owns_of_code (by simp [code])
    have checks := State.resolveChecks_of_action (w := w) length code
  case unknown => exact exec_row_of_error taken owned (by simp [unknown]) (checks.trans (by rw [unknown]))
  case free =>
    refine exec_row_of_error taken owned (fun release q hq ⟨_, _, gone⟩ => ?_)
      (checks.trans (by rw [live]; simp [free]))
    exact held release (Option.some.inj (live.symm.trans hq) ▸ gone)
  case barred =>
    refine exec_row_of_error taken owned (fun release q hq ⟨_, _, gone⟩ => ?_)
      (checks.trans (by rw [live]; simp only [record, barred, Bool.false_eq_true, if_false]))
    exact held release (Option.some.inj (live.symm.trans hq) ▸ gone)

end Sys2Proof.Machine
end
section
/-! RESOLVE at the dispense station: RETRY_SHOT, SKIP_SHOT and ACCEPT (O20). -/

namespace Sys2Proof.Machine

variable {s w u : State} {tag : Byte} {p : List Byte} {a : Action} {o : Order} {f : FaultRecord} {i : Nat}
  {e : Entry} {q : PlanContext}

/-- What an action that its record allows is handed: the state with the record removed (R154, R155). -/
theorem State.answerResolve_of_resolves (act : Order → FaultRecord → State → State) (resolves : w.Resolves p a o f) :
    State.answerResolve a act p w = (act o f (w.unhold o.number)).accept := by
  obtain ⟨length, code, live, record, allowed⟩ := resolves
  have checks : w.resolveChecks a p = .ok (o, f) := by
    rw [State.resolveChecks_of_action length code, live]
    simp only [record, allowed, if_true]
  rw [State.answerResolve, checks]

theorem Action.owns_of_resolves (resolves : w.Resolves p a o f) : a.owns p = true :=
  Action.owns_of_code fun _ hb => Option.some.inj (hb.symm.trans resolves.2.1)

theorem State.resolveCommand_of_resolves (taken : s.Takes w 0x15 tag p) (resolves : w.Resolves p a o f)
    (act : Order → FaultRecord → State → State) :
    s.resolveCommand a tag p (State.answerResolve a act) =
      .next ((act o f (w.unhold o.number)).answered 0x15 tag .ok .none).finish :=
  State.resolveCommand_of_accept taken (Action.owns_of_resolves resolves)
    (State.answerResolve_of_resolves act resolves)

/-! ## The entry a record names -/

theorem State.faultEntry_of_named (named : f.entry = some i) : s.faultEntry f = i := by
  rw [State.faultEntry, named, Option.getD_some]

theorem State.actRetryShot_of_under (under : f.kind = .under) (named : f.entry = some i) :
    State.actRetryShot o f s = ((s.setEntry i .active).modStation fun st =>
      { st with freshNeeded := true }).beginOrHold .topup := by
  rw [State.actRetryShot, if_pos under, State.faultEntry_of_named named, State.needReading]

theorem State.actRetryShot_of_other (other : f.kind ≠ .under) : State.actRetryShot o f s = s.retryPartial :=
  if_neg other

theorem State.actSkipShot_of_named (named : f.entry = some i) :
    State.actSkipShot o f s = (s.setEntry i .skipped).serveNext := by
  rw [State.actSkipShot, State.faultEntry_of_named named]

theorem State.actAccept_of_other (other : f.kind ≠ .over) (named : f.entry = some i) :
    State.actAccept o f s = (s.setEntry i .done).serveNext := by
  rw [State.actAccept, State.faultEntry_of_named named]
  simp only [other, if_false]

theorem State.actAccept_of_over (over_mass : f.kind = .over) (named : f.entry = some i) :
    State.actAccept o f s =
      ((s.setEntry i .done).setFlag o.number fun g => { g with overAccepted := true }).serveNext := by
  rw [State.actAccept, State.faultEntry_of_named named]
  simp only [over_mass, if_true]

/-! ## A PARTIAL entry taken up again (R87) -/

/-- The order of a record removed is still live. -/
theorem State.order?_unhold_live (live : w.order? o.number = some o) :
    ∃ o', (w.unhold o.number).order? o.number = some o' := by
  unfold State.unhold
  split
  · next missing => simp [live] at missing
  · split
    · exact ⟨_, (State.order?_notifyOrder _).trans (State.order?_modOrder_self live (by intro; rfl))⟩
    · exact ⟨o, live⟩

theorem State.served_of_order {n : Nat} (serves : s.station.order = some n) : s.served = n := by
  rw [State.served, serves, Option.getD_some]

theorem State.entry?_of_plan (plan : s.station.plan = some q) : s.entry? i = q.entries[i]? := by
  rw [State.entry?, plan, Option.bind_some]

theorem State.withPlan_self (plan : s.station.plan = some q) :
    (s.modStation fun st => { st with plan := some q }) = s := by
  rw [← plan]
  rfl

/-- An entry whose mark is fresh goes on as it stands, unless it is to be served with nothing left (R70, R107). -/
theorem State.rework_of_fresh {served : Bool} {go : State → State} (live : s.order? s.served = some o)
    (plan : s.station.plan = some q) (entry : q.entries[i]? = some e) (fresh : s.staleMark e = false)
    (owes : e.state = .partialShot → served = true → e.remaining ≠ 0) : s.rework i served go = go s := by
  have found := (State.entry?_of_plan plan).trans entry
  have refreshed : s.refreshEntry o q i = .ok q := by
    rw [State.refreshEntry, entry, Option.any_some, fresh]
    rfl
  rw [State.rework, live]
  simp only [plan, refreshed, State.withPlan_self plan]
  by_cases shot : e.state = .partialShot
  · have on : s.goesOn i served = true := by
      rw [State.goesOn, found, Option.any_some]
      cases served <;> simp_all
    simp only [on, if_true, ite_self]
  · have whole : s.isPartial i = false := by simp [State.isPartial, found, shot]
    simp only [whole, Bool.false_eq_true, if_false]

theorem State.modEntry_of_entry {g : Entry → Entry} (plan : s.station.plan = some q)
    (entry : q.entries[i]? = some e) :
    s.modEntry i g = { s with station := { s.station with
      plan := some { q with entries := q.entries.set i (g e) } } } := by
  rw [State.modEntry, State.modPlan, State.modStation, plan, Option.map_some, List.modify_eq_set_getElem?, entry]
  rfl

theorem State.unhold_station (n : Nat) : (w.unhold n).station = w.station := by rw [State.unhold_eq]

theorem State.unhold_canisters (n : Nat) : (w.unhold n).canisters = w.canisters := by rw [State.unhold_eq]

theorem State.unhold_settings (n : Nat) : (w.unhold n).settings = w.settings := by rw [State.unhold_eq]

theorem State.staleMark_of_mark {pos : Position} (position : e.pos = some pos)
    (mark : s.canisters[pos].mark = e.mark) : s.staleMark e = false := by
  simp only [State.staleMark, position, mark, bne_self_eq_false]

theorem State.withRemainder_of_partial {pos : Position} (shot : e.state = .partialShot) (position : e.pos = some pos) :
    s.withRemainder e = { e with owed := some {
      target := e.remainderTarget s.settings s.canisters[pos]
      strokes := strokesOf e.remaining s.canisters[pos].c } } := by
  rw [State.withRemainder, if_pos shot, State.remainderOf, position, Option.map_some]

/-- A PARTIAL entry on a fresh mark that still owes steps is served again with its remainder (R38, R87). -/
theorem State.retryPartial_of_fresh {pos : Position} (live : s.order? s.served = some o)
    (current : s.curIndex = some i) (plan : s.station.plan = some q) (entry : q.entries[i]? = some e)
    (shot : e.state = .partialShot) (position : e.pos = some pos) (mark : s.canisters[pos].mark = e.mark)
    (owes : e.remaining ≠ 0) :
    s.retryPartial = ({ s with station := { s.station with
      plan := some { q with entries := q.entries.set i { e with state := .active, owed := some {
        target := e.remainderTarget s.settings s.canisters[pos]
        strokes := strokesOf e.remaining s.canisters[pos].c } } }
      freshNeeded := true
      cur := s.station.cur.map fun c => { c with phase := .remainder } } } : State).beginOrHold .serve := by
  rw [State.retryPartial, current]
  refine (State.rework_of_fresh live plan entry (State.staleMark_of_mark position mark) fun _ _ => owes).trans ?_
  rw [State.modEntry_of_entry plan entry, State.withRemainder_of_partial shot position]
  rfl

/-- Settles O20, action by action. -/
theorem resolveOfAShot : Obligations.ResolveOfAShot := by
  intro s w tag p o f i taken named
  refine ⟨fun resolves under => ?under, fun resolves other => ?other, fun u q e pos resolves other hu serves current
    plan entry shot position mark owes => ?remainder, fun resolves => ?skip, fun resolves other => ?accept,
    fun resolves over_mass => ?overAccepted⟩
  case under =>
    refine (State.resolveCommand_of_resolves taken resolves State.actRetryShot).trans ?_
    rw [State.actRetryShot_of_under under named]
  case other =>
    refine (State.resolveCommand_of_resolves taken resolves State.actRetryShot).trans ?_
    rw [State.actRetryShot_of_other other]
  case remainder =>
    obtain ⟨-, -, live, -, -⟩ := id resolves
    have same : w.order? o.number = some o := by rw [State.order?_number live, live]
    have station : u.station = w.station := by rw [hu, State.unhold_station]
    have canisters : u.canisters = w.canisters := by rw [hu, State.unhold_canisters]
    have settings : u.settings = w.settings := by rw [hu, State.unhold_settings]
    have ⟨o', live'⟩ := State.order?_unhold_live same
    have retried := State.retryPartial_of_fresh (s := u) (o := o')
      (by rw [State.served_of_order (station ▸ serves), hu, live'])
      (by rw [State.curIndex, station]; exact current) (station ▸ plan) entry shot position (canisters ▸ mark)
      (Nat.sub_ne_zero_of_lt owes)
    refine (State.resolveCommand_of_resolves taken resolves State.actRetryShot).trans ?_
    rw [State.actRetryShot_of_other other, ← hu, retried, settings, canisters]
    rfl
  case skip =>
    refine (State.resolveCommand_of_resolves taken resolves State.actSkipShot).trans ?_
    rw [State.actSkipShot_of_named named]
  case accept =>
    refine (State.resolveCommand_of_resolves taken resolves State.actAccept).trans ?_
    rw [State.actAccept_of_other other named]
  case overAccepted =>
    refine (State.resolveCommand_of_resolves taken resolves State.actAccept).trans ?_
    rw [State.actAccept_of_over over_mass named]

end Sys2Proof.Machine
end
section
/-! RESOLVE: the operation taken up again, and the tin passed on or given up (O21, O22). -/

namespace Sys2Proof.Machine

variable {s w : State} {tag : Byte} {p : List Byte} {o : Order} {f : FaultRecord} {t : Transfer}

/-! ## RETRY -/

theorem State.actRetry_of_place (still : f.onTransfer = false) :
    State.actRetry o f s = match f.station with
      | .dispense => s.retryStation o f
      | .bay b => s.retryBay b
      | .lidder => s.retryLidder f.kind
      | .outlet => s := by
  rw [State.actRetry]
  exact if_neg (by simp [still])

theorem State.retryStation_of_lost (lost : f.kind = .lost) : s.retryStation o f = s.beginOrHold .homing := by
  simp [State.retryStation, lost]

theorem State.retryStation_of_ended (estop : f.kind = .estop) (ended : o.pendingEnd ≠ none) :
    s.retryStation o f = s.enterClearing := by
  simp [State.retryStation, estop, State.unlessEnded, Option.isSome_iff_ne_none.2 ended]

/-- The resumption of a station cut off by an e-stop (R92). -/
theorem State.retryStation_of_estop {r : ResumePoint} (estop : f.kind = .estop) (unended : o.pendingEnd = none)
    (resume : s.station.resume = some r) :
    s.retryStation o f = if r = .serve then s.retryPartial else if r = .verdict then s.retryVerdict
      else s.beginOrHold r := by
  simp only [State.retryStation, estop, if_true, State.unlessEnded, unended, Option.isSome_none, Bool.false_eq_true,
    if_false, resume]
  cases r <;> rfl

/-- A phase cut off in its settle whose entry has a fresh mark is judged again (R70, R92). -/
theorem State.retryVerdict_of_fresh {i : Nat} {e : Entry} (live : s.order? s.served = some o)
    (current : s.curIndex = some i) (entry : s.entry? i = some e) (fresh : s.staleMark e = false) :
    s.retryVerdict = s.beginOrHold .verdict := by
  obtain ⟨q, plan, entry⟩ := Option.bind_eq_some_iff.1 entry
  rw [State.retryVerdict, current]
  exact State.rework_of_fresh live plan entry fresh (by simp)

theorem State.staleMark_of_marks {e : Entry} (marks : ∀ pos, e.pos = some pos → s.canisters[pos].mark = e.mark) :
    s.staleMark e = false := by
  cases position : e.pos with
  | none => simp only [State.staleMark, position]
  | some pos => exact State.staleMark_of_mark position (marks pos position)

theorem State.unhold_record (n : Nat) (d : Dest) : (w.unhold n).record d = w.record d := by rw [State.unhold_eq]; rfl

theorem State.retryTransfer_of_record {d : Dest} (record : s.record d = some t) :
    s.retryTransfer d = if t.arrived then s.endArrival d t else s.setRecord d (some { t with retried := true }) := by
  rw [State.retryTransfer, record]

/-- Settles O21, by what the record names. -/
theorem resolveRetryTakesTheOperationUp : Obligations.ResolveRetryTakesTheOperationUp := by
  intro s w tag p o f taken resolves
  have exec_eq := State.resolveCommand_of_resolves taken resolves State.actRetry
  have done {u : State} (act : State.actRetry o f (w.unhold o.number) = u) :
      exec (.resolveRetry tag p) s = .next (u.answered 0x15 tag .ok .none).finish :=
    exec_eq.trans (by rw [act])
  have at_place (still : f.onTransfer = false) := State.actRetry_of_place (o := o) (s := w.unhold o.number) still
  refine ⟨fun still station lost => ?lost, fun r still station estop unended resume => ?resume,
    fun still station estop ended => ?ended, fun i e still station estop unended resume serves current entry marks =>
    ?verdict, fun b still station => ?bay, fun still station seat => ?seat, fun still station estop => ?lidder,
    fun t moving record coming => ?waits, fun t moving record arrived => ?arrives⟩
  case lost => exact done (by rw [at_place still, station]; exact State.retryStation_of_lost lost)
  case resume =>
    refine done ?_
    rw [at_place still, station]
    exact State.retryStation_of_estop estop unended (by rw [State.unhold_station, resume])
  case ended => exact done (by rw [at_place still, station]; exact State.retryStation_of_ended estop ended)
  case verdict =>
    obtain ⟨-, -, live, -, -⟩ := resolves
    have same : w.order? o.number = some o := by rw [State.order?_number live, live]
    have ⟨o', live'⟩ := State.order?_unhold_live same
    have kept := State.unhold_station (w := w) o.number
    refine done ?_
    rw [at_place still, station]
    refine (State.retryStation_of_estop estop unended (by rw [kept, resume])).trans ?_
    refine State.retryVerdict_of_fresh (o := o') (i := i) (e := e) ?_ ?_ ?_ ?_
    · rw [State.served_of_order (by rw [kept, serves]), live']
    · rw [State.curIndex, kept]
      exact current
    · rw [State.entry?, kept]
      exact entry
    · exact State.staleMark_of_marks fun pos position => by rw [State.unhold_canisters, marks pos position]
  case bay => exact done (by rw [at_place still, station]; rfl)
  case seat => exact done (by rw [at_place still, station]; simp only [State.retryLidder, seat]; rfl)
  case lidder => exact done (by rw [at_place still, station]; simp only [State.retryLidder, estop, if_true])
  all_goals
    have taken_up : State.actRetry o f (w.unhold o.number) = (w.unhold o.number).retryTransfer f.station :=
      if_pos moving
    refine done ?_
    rw [taken_up, State.retryTransfer_of_record ((State.unhold_record ..).trans record)]
  case waits => exact if_neg (by simp [coming])
  case arrives => exact if_pos arrived

/-! ## SCRAP, CANCEL, REMAKE and RELEASE -/

theorem State.actScrap_of_place (still : f.onTransfer = false) :
    State.actScrap o f s = match f.station with
      | .dispense => (s.setPendingEnd o.number .scrapped).enterClearing
      | .bay b => (s.setPendingEnd o.number .scrapped).clearBay b
      | .lidder => (s.setPendingEnd o.number .scrapped).clearLidder
      | .outlet => s.setPendingEnd o.number .scrapped := by
  rw [State.actScrap]
  exact if_neg (by simp [still])

theorem State.actScrap_of_transfer (moving : f.onTransfer = true) (record : s.record f.station = some t) :
    State.actScrap o f s = (s.setPendingEnd o.number .scrapped).scrapTransfer f.station t := by
  have kept : (s.setPendingEnd o.number .scrapped).record f.station = some t := record
  simp only [State.actScrap, moving, if_true, kept]

theorem State.unlessEnded_of_none (unended : o.pendingEnd = none) (begin_ : State → State) :
    State.unlessEnded o s begin_ = begin_ s := by
  simp [State.unlessEnded, unended]

theorem State.unlessEnded_of_ended (ended : o.pendingEnd ≠ none) (begin_ : State → State) :
    State.unlessEnded o s begin_ = s.enterClearing :=
  if_pos (Option.isSome_iff_ne_none.2 ended)

theorem State.answerRelease_of_resolves (resolves : w.Resolves p .release o f) (held : o.state ≠ .interrupted) :
    State.answerRelease p w = (State.actRelease o f (w.unhold o.number)).accept := by
  refine (State.answerRelease_of_held fun q hq ⟨_, _, gone⟩ => ?_).trans
    (State.answerResolve_of_resolves State.actRelease resolves)
  obtain ⟨-, -, live, -, -⟩ := resolves
  exact held (Option.some.inj (live.symm.trans hq) ▸ gone)

theorem State.answerRelease_of_interrupted (length : p.length = 3)
    (code : Action.ofCode (Bytes.field p 2 1) = some .release) (live : w.order? (Bytes.field p 0 2) = some o)
    (gone : o.state = .interrupted) : State.answerRelease p w = (w.freeOrder o.number .released).accept := by
  rw [State.answerRelease, live]
  exact if_pos ⟨length, code, gone⟩

theorem State.unhold_lidder (n : Nat) : (w.unhold n).lidder = w.lidder := by rw [State.unhold_eq]

theorem State.unhold_conveyor (n : Nat) : (w.unhold n).conveyor = w.conveyor := by rw [State.unhold_eq]

/-- Settles O22, action by action. -/
theorem resolvePassesOrGivesUpTheTin : Obligations.ResolvePassesOrGivesUpTheTin := by
  refine ⟨fun s w tag p o f taken => ⟨fun t resolves record => ?confirm, fun resolves => ?pass⟩,
    fun s w tag p o f taken => ⟨fun resolves still station => ?station, fun b resolves still station => ?bay,
      fun resolves still station => ?lidder, fun t resolves moving record => ?transfer, fun resolves => ?cancel,
      fun resolves unended => ?remake, fun resolves ended => ?cleared, fun resolves held => ?release,
      fun length code live gone => ?interrupted⟩⟩
  case confirm =>
    refine (State.resolveCommand_of_resolves taken resolves State.actConfirm).trans ?_
    rw [State.actConfirm, State.unhold_record, record]
    rfl
  case pass =>
    refine (State.resolveCommand_of_resolves taken resolves State.actPass).trans ?_
    rw [← State.unhold_lidder o.number, ← State.unhold_conveyor o.number]
    rfl
  case cancel => exact State.resolveCommand_of_resolves taken resolves State.actCancel
  case remake =>
    refine (State.resolveCommand_of_resolves taken resolves State.actRemake).trans ?_
    rw [State.actRemake, State.unlessEnded_of_none unended]
  case cleared =>
    refine (State.resolveCommand_of_resolves taken resolves State.actRemake).trans ?_
    rw [State.actRemake, State.unlessEnded_of_ended ended]
  case release =>
    exact State.resolveCommand_of_accept taken (Action.owns_of_resolves resolves)
      (State.answerRelease_of_resolves resolves held)
  case interrupted =>
    exact State.resolveCommand_of_accept taken (Action.owns_of_code fun _ hb => Option.some.inj (hb.symm.trans code))
      (State.answerRelease_of_interrupted length code live gone)
  all_goals refine (State.resolveCommand_of_resolves taken resolves State.actScrap).trans ?_
  case transfer => rw [State.actScrap_of_transfer moving ((State.unhold_record ..).trans record)]
  all_goals rw [State.actScrap_of_place still, station]

end Sys2Proof.Machine
end
section
/-! Manual steps: the addition weighed or skipped, and its verdict (O23). -/

namespace Sys2Proof.Machine

variable {s w : State} {tag : Byte} {p : List Byte} {c : CurrentEntry} {e : Entry} {r : Option Nat} {t : Target}

/-! ## The verdict on a manual addition (R89) -/

theorem State.cur_of_current (current : s.current? = some (c, e)) : s.station.cur = some c := by
  obtain ⟨c', cur, found⟩ := Option.bind_eq_some_iff.1 current
  obtain ⟨e', -, same⟩ := Option.map_eq_some_iff.1 found
  rw [cur, (Prod.mk.inj same).1]

/-- A change of the current entry record is determined by what it makes of that record. -/
theorem State.modCur_congr {g k : CurrentEntry → CurrentEntry} (cur : s.station.cur = some c) (same : g c = k c) :
    s.modCur g = s.modCur k := by
  rw [State.modCur, State.modCur, State.modStation, State.modStation, cur, Option.map_some, Option.map_some, same]

theorem State.endReading_cur (r : Option Nat) : (s.endReading r).station.cur = s.station.cur := by
  cases r <;> rfl

theorem judgeTarget_of_under {m : Nat} (light : m + t.tol < t.mass) : judgeTarget (some t) m = .under :=
  if_pos (by omega)

theorem judgeTarget_of_over {m : Nat} (heavy : t.mass + t.tol < m) : judgeTarget (some t) m = .over :=
  (if_neg (by omega)).trans (if_pos heavy)

theorem judgeTarget_of_pass {m : Nat} (enough : t.mass ≤ m + t.tol) (fits : m ≤ t.mass + t.tol) :
    judgeTarget (some t) m = .pass :=
  (if_neg (by omega)).trans (if_neg (by omega))

/-- The state a manual addition is judged in: the reading kept, the mass entered (R89). -/
def State.weighedByHand (s : State) (c : CurrentEntry) (r m : Option Nat) : State :=
  ((s.endReading r).modCur fun c => { c with judged := m.getD c.judged, hostMass := none }).modEntry c.index fun e =>
    { e with measured := if m.isSome then m else e.measured }

theorem State.endReading_served (r : Option Nat) : (s.endReading r).served = s.served := by
  cases r <;> rfl

theorem State.shotDone_station (v : Verdict) (m : Option Nat) : (s.shotDone v m).station = s.station := by
  unfold State.shotDone
  split <;> rfl

theorem State.served_of_station {u : State} (same : u.station = s.station) : u.served = s.served := by
  rw [State.served, same, State.served]

/-- The order served stays the one served while its addition is entered. -/
theorem State.served_weighedByHand (v : Verdict) (m : Option Nat) (st : EntryState) :
    (((s.weighedByHand c r m).shotDone v m).setEntry c.index st).served = s.served :=
  (State.served_of_station (State.shotDone_station v m)).trans (State.endReading_served r)

theorem State.verdictReading_of_manual (current : s.current? = some (c, e)) (manual : c.phase = .manual) :
    s.verdictReading r =
      if (c.manualMass r).isNone ∧ c.target.isSome then
        ((s.weighedByHand c r (c.manualMass r)).setEntry c.index .failed).fault .sensor (some c.index) .none
      else
        match judgeTarget c.target ((c.manualMass r).getD c.judged) with
        | .under => ((s.weighedByHand c r (c.manualMass r)).shotDone .under (c.manualMass r)).issueManual true
        | .over => (((s.weighedByHand c r (c.manualMass r)).shotDone .over (c.manualMass r)).setEntry c.index
            .failed).fault .over (some c.index) (.mass ((c.manualMass r).getD c.judged) c.target)
        | v => ((((s.weighedByHand c r (c.manualMass r)).shotDone v (c.manualMass r)).setEntry c.index .done).setFlag
            s.served fun g => { g with manualUsed := true }).serveNext := by
  have cur := State.cur_of_current current
  have entered : (s.endReading r).modCur (fun k =>
      { k with judged := (c.manualMass r).getD c.judged, hostMass := none }) =
      (s.endReading r).modCur fun k => { k with judged := (c.manualMass r).getD k.judged, hostMass := none } :=
    State.modCur_congr ((State.endReading_cur r).trans cur) rfl
  rw [State.verdictReading, cur]
  simp only [manual, if_true]
  rw [State.judgeManual, current]
  dsimp only
  rw [entered]
  refine if_congr Iff.rfl rfl ?_
  cases judgeTarget c.target ((c.manualMass r).getD c.judged)
  case pass | stall | sensor | unweighed =>
    exact congrArg (fun n => (State.setFlag _ n fun g => { g with manualUsed := true }).serveNext)
      (State.served_weighedByHand _ _ .done)
  all_goals rfl

theorem State.verdictReading_of_manual_pass (current : s.current? = some (c, e)) (manual : c.phase = .manual)
    (judged : ¬((c.manualMass r).isNone ∧ c.target.isSome))
    (pass : judgeTarget c.target ((c.manualMass r).getD c.judged) = .pass) :
    s.verdictReading r = ((((s.weighedByHand c r (c.manualMass r)).shotDone .pass (c.manualMass r)).setEntry c.index
      .done).setFlag s.served fun g => { g with manualUsed := true }).serveNext := by
  rw [State.verdictReading_of_manual current manual, if_neg judged, pass]

/-! ## The step asked for again -/

theorem State.issueManual_of_deficit {rho : Nat} (current : s.current? = some (c, e)) (target : c.target = some t)
    (density : s.densityOf e.code = some rho) :
    s.issueManual true = (s.notify (.manualStep s.served c.index e.code (volumeOf (t.mass - c.judged) rho)
      (t.mass - c.judged) e.round)).modStation fun st => { st with state := .awaitManual } := by
  rw [State.issueManual, current]
  simp only [target, density]
  rfl

/-! ## MANUAL_DONE and MANUAL_SKIP -/

theorem exec_manualDone_of_takes (taken : s.Takes w 0x16 tag p) (done : (Bytes.field p 3 1).testBit 0 = false) :
    exec (.manualDone tag p) s = .next ((State.answerManualDone p w).state.answered 0x16 tag
      (State.answerManualDone p w).status (State.answerManualDone p w).body).finish := by
  change execManualDone tag p s = _
  have flag : manualSkipFlag p = false := done
  rw [execManualDone, State.command_of_working taken.1]
  simp only [flag, Bool.false_eq_true, and_false, if_false]
  rw [State.request_of_offer taken.2]

theorem exec_manualSkip_of_takes (taken : s.Takes w 0x16 tag p) (skip : (Bytes.field p 3 1).testBit 0 = true) :
    exec (.manualSkip tag p) s = .next ((State.answerManualSkip p w).state.answered 0x16 tag
      (State.answerManualSkip p w).status (State.answerManualSkip p w).body).finish := by
  change execManualSkip tag p s = _
  have flag : manualSkipFlag p = true := skip
  rw [execManualSkip, State.command_of_working taken.1]
  simp only [flag, Bool.not_true, Bool.false_eq_true, and_false, if_false]
  rw [State.request_of_offer taken.2]

/-- An answer to a manual step that fails a check (R89, R90). -/
theorem exec_manual_of_refused {i : Instr} {skip : Bool} {st : Status} (taken : s.Takes w 0x16 tag p)
    (row : (i, skip) ∈ [(Instr.manualDone tag p, false), (.manualSkip tag p, true)])
    (flag : (Bytes.field p 3 1).testBit 0 = skip)
    (refused : w.manualChecks p (readManual p) (!skip) = some st) :
    exec i s = .next (w.answered 0x16 tag st .none).finish := by
  simp only [List.mem_cons, Prod.mk.injEq, List.not_mem_nil, or_false] at row
  rcases row with ⟨rfl, rfl⟩ | ⟨rfl, rfl⟩
  case inl =>
    have answer : State.answerManualDone p w = w.refuse st := by
      rw [Bool.not_false] at refused
      simp only [State.answerManualDone, refused]
    rw [exec_manualDone_of_takes taken flag, answer]
    rfl
  case inr =>
    have answer : State.answerManualSkip p w = w.refuse st := by
      rw [Bool.not_true] at refused
      simp only [State.answerManualSkip, refused]
    rw [exec_manualSkip_of_takes taken flag, answer]
    rfl

theorem readManual_mass :
    (readManual p).mass = if (Bytes.field p 3 1).testBit 1 then some (Bytes.field p 4 4) else none := rfl

/-- The mass of a payload is within its limit, where it is read and where it is present. -/
theorem manualMass_within {read : Bool}
    (mass : read = true → (Bytes.field p 3 1).testBit 1 = true → Bytes.field p 4 4 ≤ 30000000) :
    ¬(read && decide (Config.maxMass < (readManual p).mass.getD 0)) = true := by
  rw [readManual_mass]
  simp only [Bool.and_eq_true, decide_eq_true_eq, not_and, not_lt]
  intro reads
  split
  · next present => exact mass reads present
  · exact Nat.zero_le _

section Checks

variable {read : Bool} (length : p.length = manualLength)
  (mass : read = true → (Bytes.field p 3 1).testBit 1 = true → Bytes.field p 4 4 ≤ 30000000)

include length

theorem State.manualChecks_of_heavy (reads : read = true) (present : (Bytes.field p 3 1).testBit 1 = true)
    (heavy : 30000000 < Bytes.field p 4 4) : w.manualChecks p (readManual p) read = some .badField := by
  have beyond : (read && decide (Config.maxMass < (readManual p).mass.getD 0)) = true := by
    rw [readManual_mass, present, reads]
    exact decide_eq_true heavy
  rw [State.manualChecks, if_neg (not_not.2 length), if_pos beyond]

include mass

theorem State.manualChecks_of_unknown (unknown : w.order? (Bytes.field p 0 2) = none) :
    w.manualChecks p (readManual p) read = some .noSuchOrder := by
  rw [State.manualChecks, if_neg (not_not.2 length), if_neg (manualMass_within mass)]
  exact if_pos (Option.isNone_iff_eq_none.2 unknown)

theorem State.manualChecks_of_known (known : w.order? (Bytes.field p 0 2) ≠ none) :
    w.manualChecks p (readManual p) read =
      if w.station.state ≠ .awaitManual ∨ w.station.order ≠ some (Bytes.field p 0 2) ∨
        w.curIndex ≠ some (Bytes.field p 2 1) then some .wrongState else none := by
  rw [State.manualChecks, if_neg (not_not.2 length), if_neg (manualMass_within mass)]
  exact if_neg (mt Option.isNone_iff_eq_none.1 known)

end Checks

/-- Settles O23: the verdict by the mass, and the checks of the answers in their order. -/
theorem manualStepAnswered : Obligations.ManualStepAnswered := by
  refine ⟨fun s u r m c e current manual hm hu => ?verdict,
    fun s c e t rho current target density => State.issueManual_of_deficit current target density,
    fun s w tag p i skip taken length row flag => ⟨fun done present heavy => ?heavy, fun mass =>
      ⟨fun unknown => ?unknown, fun known unawaited => ?unawaited⟩⟩,
    fun s w tag p o i taken length live state serves current number => ⟨fun done mass => ?done, fun skip => ?skip⟩⟩
  case verdict =>
    have mass : c.manualMass r = m := hm.symm
    have entered : s.weighedByHand c r m = u := hu.symm
    refine ⟨fun absent target => ?sensor, fun t w target present => ⟨fun light => ?under, fun heavy => ?tooMuch,
      fun enough fits => ?pass⟩, fun untargeted => ?untargeted⟩
    case sensor =>
      rw [State.verdictReading_of_manual current manual, mass, entered, absent]
      exact if_pos ⟨rfl, Option.isSome_iff_ne_none.2 target⟩
    case untargeted =>
      have pass := State.verdictReading_of_manual_pass (r := r) current manual (by simp [untargeted])
        (by rw [untargeted]; rfl)
      rw [pass, mass, entered]
    all_goals
      have judged : ¬((c.manualMass r).isNone ∧ c.target.isSome) := by simp [mass, present]
      have judgement : judgeTarget c.target ((c.manualMass r).getD c.judged) = judgeTarget (some t) w := by
        rw [mass, present, target, Option.getD_some]
    case pass =>
      rw [State.verdictReading_of_manual_pass current manual judged
        (judgement.trans (judgeTarget_of_pass enough fits)), mass, entered]
    all_goals rw [State.verdictReading_of_manual current manual, if_neg judged, judgement]
    case under => rw [judgeTarget_of_under light, mass, entered]
    case tooMuch =>
      rw [judgeTarget_of_over heavy, mass, entered]
      simp only [present, target, Option.getD_some]
  case heavy =>
    exact exec_manual_of_refused taken row flag (State.manualChecks_of_heavy length (by simp [done]) present heavy)
  case unknown =>
    exact exec_manual_of_refused taken row flag (State.manualChecks_of_unknown length (by simpa using mass) unknown)
  case unawaited =>
    exact exec_manual_of_refused taken row flag
      ((State.manualChecks_of_known length (by simpa using mass) known).trans (if_pos unawaited))
  all_goals
    have awaited : ¬(w.station.state ≠ .awaitManual ∨ w.station.order ≠ some (Bytes.field p 0 2) ∨
        w.curIndex ≠ some (Bytes.field p 2 1)) := by simp [state, serves, current, number]
  case done =>
    have checks := (State.manualChecks_of_known (w := w) (read := true) length (by simpa using mass)
      (by simp [live])).trans (if_neg awaited)
    rw [exec_manualDone_of_takes taken done, State.answerManualDone]
    simp only [checks]
    rfl
  case skip =>
    have checks := (State.manualChecks_of_known (w := w) (read := false) length nofun (by simp [live])).trans
      (if_neg awaited)
    rw [exec_manualSkip_of_takes taken skip, State.answerManualSkip]
    simp only [checks, ← number]
    rfl

end Sys2Proof.Machine
end

section
/-! The canister table set, refilled and cleared (O24, O25). -/

namespace Sys2Proof.Machine

variable {s w : State} {tag : Byte} {p : List Byte} {pos : Position} {c : Canister} {f : CanisterFields}

/-! ## The records -/

theorem readCanister_code (read : readCanister p = some f) : f.code ≠ 0 := by
  unfold readCanister at read
  dsimp only at read
  split at read
  · split at read
    · next ranges =>
      cases read
      simp [inRange] at ranges ⊢
      omega
    · cases read
  · cases read

theorem not_decide_lt (a b : Nat) : (!decide (a < b)) = decide (b ≤ a) := by
  simp only [← decide_not, Nat.not_lt]

/-- The notices a configured record arms by what it shows (R42, R44). -/
theorem Canister.rearmed_of_code (code : c.code ≠ 0) :
    c.rearmed = { c with
      lowArmed := decide (c.low * 1000000 ≤ c.level), dryArmed := decide (c.m * c.d ≤ c.level - c.floor) } := by
  have configured : c.configured = true := by simpa [Canister.configured] using code
  simp only [Canister.rearmed, Canister.isLow, Canister.isDry, configured, Bool.true_and, not_decide_lt]
  rfl

theorem CanisterFields.record_of_code (code : f.code ≠ 0) (old : Canister) :
    f.record old =
      { code := f.code, role := f.role, d := f.d, rho := f.rho, c := f.c, m := f.m, capacity := f.capacity,
        floor := f.floor, low := f.low, level := min f.level (f.capacity * 1000000), seated := old.seated,
        confirmed := true, lowArmed := decide (f.low * 1000000 ≤ min f.level (f.capacity * 1000000)),
        dryArmed := decide (f.m * f.d ≤ min f.level (f.capacity * 1000000) - f.floor),
        mark := if old.code = 0 ∨ f.changes old = true then (old.mark + 1) % 4294967296 else old.mark,
        drawing := old.drawing } := by
  rw [CanisterFields.record, Canister.rearmed_of_code (by exact code)]
  simp [Canister.configured, advanceMark]

theorem Canister.refilled_of_code {level added : Nat} (code : c.code ≠ 0)
    (filled : level = min (c.level + added * 1000) (c.capacity * 1000000)) :
    c.refilled added = { c with
      level := level, confirmed := true, lowArmed := decide (c.low * 1000000 ≤ level)
      dryArmed := decide (c.m * c.d ≤ level - c.floor) } := by
  rw [Canister.refilled, ← filled]
  exact Canister.rearmed_of_code (by exact code)

/-! ## The report to a stroke that waits (R80) -/

theorem State.changePosition_of_idle (idle : s.station.state ≠ .waitCanister) :
    s.changePosition pos c = { s with canisters := s.canisters.set pos c } := by
  have unreported : (s.modCanister pos fun _ => c).reportPosition pos = s.modCanister pos fun _ => c :=
    if_neg fun ⟨waits, _⟩ => idle waits
  rw [State.changePosition]
  simp only [unreported, ite_self]
  rfl

theorem State.waitingFinding_of_current {x : CurrentEntry} {e : Entry} (current : s.current? = some (x, e)) :
    s.waitingFinding pos = some (s.canisters[pos].finding e.code (x.strokes.getD x.ended 0)) := by
  rw [State.waitingFinding, current]

/-- The answer of the table to the stroke that waits, after a change of the position's record. -/
theorem State.waitingFinding_modCanister {x : CurrentEntry} {e : Entry} (current : s.current? = some (x, e)) :
    (s.modCanister pos fun _ => c).waitingFinding pos = some (c.finding e.code (x.strokes.getD x.ended 0)) := by
  have kept : (s.modCanister pos fun _ => c).current? = some (x, e) := current
  rw [State.waitingFinding_of_current kept]
  simp [State.modCanister]

theorem State.changePosition_of_same {x : CurrentEntry} {e : Entry} (current : s.current? = some (x, e))
    (same : c.finding e.code (x.strokes.getD x.ended 0) =
      s.canisters[pos].finding e.code (x.strokes.getD x.ended 0)) :
    s.changePosition pos c = { s with canisters := s.canisters.set pos c } := by
  rw [State.changePosition, State.waitingFinding_modCanister current, State.waitingFinding_of_current current]
  exact if_pos (congrArg some same)

theorem State.changePosition_of_elsewhere
    (away : ∀ x e, s.current? = some (x, e) → e.pos ≠ some pos) :
    s.changePosition pos c = { s with canisters := s.canisters.set pos c } := by
  have unreported : (s.modCanister pos fun _ => c).reportPosition pos = s.modCanister pos fun _ => c := by
    refine if_neg fun ⟨_, there⟩ => ?_
    obtain ⟨⟨x, e⟩, current, position⟩ := Option.bind_eq_some_iff.1 there
    exact away x e current position
  rw [State.changePosition]
  simp only [unreported, ite_self]
  rfl

theorem State.changePosition_of_changed {x : CurrentEntry} {e : Entry} (waits : s.station.state = .waitCanister)
    (current : s.current? = some (x, e)) (position : e.pos = some pos)
    (changed : c.finding e.code (x.strokes.getD x.ended 0) ≠
      s.canisters[pos].finding e.code (x.strokes.getD x.ended 0)) :
    s.changePosition pos c = ({ s with canisters := s.canisters.set pos c } : State).recheck := by
  have reported : (s.modCanister pos fun _ => c).reportPosition pos = (s.modCanister pos fun _ => c).recheck :=
    if_pos ⟨waits, Option.bind_eq_some_iff.2 ⟨(x, e), current, position⟩⟩
  rw [State.changePosition, State.waitingFinding_modCanister current, State.waitingFinding_of_current current,
    if_neg (mt Option.some.inj changed), reported]
  rfl

theorem ite_lt_flip {α : Type} {a b : Nat} (x y : α) : (if a < b then x else y) = if b ≤ a then y else x := by
  simp only [← Nat.not_lt, ite_not]

/-! ## CANISTER_SET -/

theorem exec_canisterSet_of_takes (taken : s.Takes w 0x20 tag p) (length : p.length = 31)
    (read : readCanister p = some f) (free : w.setRefused f = false) (role : w.roleTaken f = false)
    (record : f.record w.canisters[f.pos] = c) :
    exec (.canisterSet tag p) s = .next ((w.changePosition f.pos c).answered 0x20 tag
      (if f.level ≤ f.capacity * 1000000 then .ok else .adjusted)
      (.canister f.pos c (c.level - c.floor) c.condition)).finish := by
  refine (State.requestCommand_of_takes taken (State.answerCanisterSet p)).trans ?_
  have answer : State.answerCanisterSet p w = {
      state := w.changePosition f.pos c,
      status := if f.level ≤ f.capacity * 1000000 then .ok else .adjusted,
      body := .canister f.pos c c.usable c.condition } := by
    rw [State.answerCanisterSet, if_neg (not_not.2 length), read]
    simp only [free, role, Bool.false_eq_true, if_false, record, ite_lt_flip]
  rw [answer, Canister.usable]

/-- Settles O24: the record of R42, and the report to the stroke that waits. -/
theorem canisterSetLeavesTheRecord : Obligations.CanisterSetLeavesTheRecord := by
  intro s w tag p f c taken length read free role hc
  have record : f.record w.canisters[f.pos] = c := by rw [hc, CanisterFields.record_of_code (readCanister_code read)]
  have executed := exec_canisterSet_of_takes taken length read free role record
  refine ⟨fun idle => ?idle, fun x e waits current position changed => ?waits⟩
  case idle => rw [executed, State.changePosition_of_idle idle]
  case waits => rw [executed, State.changePosition_of_changed waits current position changed]

/-! ## CANISTER_REFILL and CANISTER_CLEAR -/

theorem exec_canisterRefill_of_takes (taken : s.Takes w 0x22 tag p) (length : p.length = 5)
    (position : Bytes.field p 0 1 = pos.val) (some_volume : 1 ≤ Bytes.field p 1 4)
    (within : Bytes.field p 1 4 ≤ 5000000) (code : w.canisters[pos].code ≠ 0)
    (record : w.canisters[pos].refilled (Bytes.field p 1 4) = c) :
    exec (.canisterRefill tag p) s = .next ((w.changePosition pos c).answered 0x22 tag
      (if w.canisters[pos].level + Bytes.field p 1 4 * 1000 ≤ w.canisters[pos].capacity * 1000000 then .ok
        else .adjusted)
      (.level c.level (c.level - c.floor) c.condition)).finish := by
  refine (State.requestCommand_of_takes taken (State.answerRefill p)).trans ?_
  have added : ¬(Bytes.field p 1 4 = 0 ∨ 5000000 < Bytes.field p 1 4) := by omega
  have configured : w.canisters[pos].configured = true := by simpa [Canister.configured] using code
  have answer : State.answerRefill p w = {
      state := w.changePosition pos c,
      status := if w.canisters[pos].level + Bytes.field p 1 4 * 1000 ≤ w.canisters[pos].capacity * 1000000
        then .ok else .adjusted,
      body := .level c.level c.usable c.condition } := by
    rw [State.answerRefill, if_neg (not_not.2 length)]
    simp only [position, readPosition_val, added, if_false, configured, Bool.not_true, Bool.false_eq_true, record,
      ite_lt_flip]
  rw [answer, Canister.usable]

theorem exec_canisterClear_of_takes (taken : s.Takes w 0x23 tag p) (length : p.length = 1)
    (position : Bytes.field p 0 1 = pos.val) (free : w.inUse pos = false) :
    exec (.canisterClear tag p) s =
      .next ((w.modCanister pos Canister.cleared).answered 0x23 tag .ok .none).finish := by
  refine State.requestCommand_of_accept taken (owner := State.answerCanisterClear p) ?_
  rw [State.answerCanisterClear, if_neg (not_not.2 length), position, readPosition_val]
  simp only [free, Bool.false_eq_true, if_false]

theorem State.modCanister_cleared_of_blank (blank : s.canisters[pos].code = 0) :
    s.modCanister pos Canister.cleared = s := by
  have kept : s.canisters[pos].cleared = s.canisters[pos] := if_neg (by simp only [Canister.configured, blank]; decide)
  rw [State.modCanister, kept]
  simp

theorem Canister.cleared_of_code (code : c.code ≠ 0) :
    c.cleared = { seated := c.seated, mark := (c.mark + 1) % 4294967296 } :=
  if_pos (by simpa [Canister.configured] using code)

/-- Settles O25: the level refilled and reported, and the position cleared. -/
theorem canisterRefillAndClear : Obligations.CanisterRefillAndClear := by
  refine ⟨fun s w tag p pos lv taken length position some_volume within code hlv => ⟨_, rfl, fun st hst => ?refill⟩,
    fun s w tag p pos taken length position free => ⟨fun blank => ?blank, fun code => ?clear⟩⟩
  case refill =>
    have executed := exec_canisterRefill_of_takes taken length position some_volume within code
      (Canister.refilled_of_code code hlv)
    rw [← hst] at executed
    refine ⟨fun quiet => ?quiet, fun x e waits current there changed => ?waits⟩
    case waits => rw [executed, State.changePosition_of_changed waits current there changed]
    case quiet =>
      rw [executed]
      rcases quiet with idle | same
      · rw [State.changePosition_of_idle idle]
      · by_cases there : ∃ x e, w.current? = some (x, e) ∧ e.pos = some pos
        · obtain ⟨x, e, current, there⟩ := there
          rw [State.changePosition_of_same current (same x e current there)]
        · rw [State.changePosition_of_elsewhere fun x e current here => there ⟨x, e, current, here⟩]
  case blank =>
    rw [exec_canisterClear_of_takes taken length position free, State.modCanister_cleared_of_blank blank]
  case clear =>
    rw [exec_canisterClear_of_takes taken length position free, State.modCanister, Canister.cleared_of_code code]

end Sys2Proof.Machine
end
section
/-! The class table, the lids, the settings and the flash store (O26, O27). -/

namespace Sys2Proof.Machine

variable {s w : State} {tag : Byte} {p : List Byte}

theorem readClass_of_fields {i : Fin 6} (entry : Bytes.field p 0 1 = i.val) (first : 1 ≤ Bytes.field p 2 1)
    (ordered : Bytes.field p 2 1 ≤ Bytes.field p 3 1) (last : Bytes.field p 3 1 ≤ 250)
    (attributes : Bytes.field p 4 1 < 16) :
    readClass p = some (i, {
      enabled := Bytes.bit p 1 0, first := Bytes.field p 2 1, last := Bytes.field p 3 1, late := Bytes.bit p 4 0,
      gentle := Bytes.bit p 4 1, hold := Bytes.bit p 4 2, weigh := Bytes.bit p 4 3 }) := by
  have below : Bytes.field p 0 1 < 6 := entry ▸ i.isLt
  have ranges : (inRange (Bytes.field p 2 1) 1 250 && inRange (Bytes.field p 3 1) 1 250 &&
      decide (Bytes.field p 2 1 ≤ Bytes.field p 3 1) && decide (Bytes.field p 4 1 < 16)) = true := by
    simp [inRange]
    omega
  have index : (⟨Bytes.field p 0 1, below⟩ : Fin 6) = i := Fin.ext entry
  rw [readClass]
  simp only [below, dif_pos, ranges, if_true, index]

theorem exec_classSet_of_takes {i : Fin 6} {e : ClassEntry} (taken : s.Takes w 0x24 tag p) (length : p.length = 5)
    (read : readClass p = some (i, e)) :
    exec (.classSet tag p) s =
      .next (({ w with classes := w.classes.set i e } : State).answered 0x24 tag .ok .none).finish := by
  refine State.requestCommand_of_accept taken (owner := State.answerClassSet p) ?_
  rw [State.answerClassSet, if_neg (not_not.2 length), read]

theorem TinClass.ofCode_code (cls : TinClass) : TinClass.ofCode cls.code = some cls := by
  cases cls <;> rfl

theorem exec_lidsLoaded_of_takes {cls : TinClass} (taken : s.Takes w 0x30 tag p) (length : p.length = 2)
    (sent : Bytes.field p 0 1 = cls.code) :
    exec (.lidsLoaded tag p) s = .next ((w.modLidder fun l => l.load cls (min (Bytes.field p 1 1) 80)).answered 0x30 tag
      (if Bytes.field p 1 1 ≤ 80 then .ok else .adjusted)
      (.lids (w.lidder.magazines.set cls (min (Bytes.field p 1 1) 80)))).finish := by
  refine (State.requestCommand_of_takes taken (State.answerLids p)).trans ?_
  have answer : State.answerLids p w = {
      state := w.modLidder fun l => l.load cls (min (Bytes.field p 1 1) 80)
      status := if Bytes.field p 1 1 ≤ 80 then .ok else .adjusted
      body := .lids (w.lidder.magazines.set cls (min (Bytes.field p 1 1) 80)) } := by
    rw [State.answerLids, if_neg (not_not.2 length), sent, TinClass.ofCode_code]
    dsimp only
    rw [ite_lt_flip]
    rfl
  rw [answer]

/-- What LIDS_LOADED marks: a lidder that waits for the class (R134). -/
theorem Lidder.load_eq (l : Lidder) (cls : TinClass) (n : Nat) :
    l.load cls n = { l with
      magazines := l.magazines.set cls n
      loaded := l.loaded || decide (l.state = .waitLids ∧ l.tin.map LidderTin.cls = some cls) } := by
  simp [Lidder.load, beq_eq_decide]

theorem clampTo_within {n low high : Nat} (ordered : low ≤ high) :
    low ≤ clampTo n low high ∧ clampTo n low high ≤ high :=
  ⟨Nat.le_max_left .., Nat.max_le.2 ⟨ordered, Nat.min_le_right ..⟩⟩

theorem Settings.clamped_inRange (st : Settings) : st.clamped.InRange :=
  ⟨clampTo_within (by decide), clampTo_within (by decide), clampTo_within (by decide), clampTo_within (by decide),
    clampTo_within (by decide), clampTo_within (by decide), clampTo_within (by decide)⟩

theorem exec_settingsSet_of_takes (taken : s.Takes w 0x50 tag p) (length : p.length = 14) :
    exec (.settingsSet tag p) s = .next (({ w with settings := (readSettings p).clamped } : State).answered 0x50 tag
      (if (readSettings p).clamped = readSettings p then .ok else .adjusted)
      (.settings (readSettings p).clamped)).finish := by
  refine (State.requestCommand_of_takes taken (State.answerSettingsSet p)).trans ?_
  rw [State.answerSettingsSet, if_neg (not_not.2 length)]

/-- Settles O26, table by table. -/
theorem classLidsAndSettingsTaken : Obligations.ClassLidsAndSettingsTaken := by
  refine ⟨fun s w tag p i taken length entry first ordered last attributes => ⟨_, rfl, ?classes⟩,
    fun s w tag p cls taken length sent => ⟨w.lidder.magazines.set cls (min (Bytes.field p 1 1) 80), ?count,
      fun k other => ?others, ?lids⟩,
    fun s w tag p taken length => ⟨(readSettings p).clamped, Settings.clamped_inRange _, rfl, rfl, rfl, rfl, rfl, rfl,
      rfl, exec_settingsSet_of_takes taken length⟩, fun s w tag p taken length => ?badLength⟩
  case classes =>
    exact exec_classSet_of_takes taken length (readClass_of_fields entry first ordered last attributes)
  case count => rw [Magazines.count_set, if_pos rfl]
  case others => rw [Magazines.count_set, if_neg other]
  case lids => rw [exec_lidsLoaded_of_takes taken length sent, State.modLidder, Lidder.load_eq]
  case badLength =>
    exact State.requestCommand_of_refuse taken (owner := State.answerSettingsSet p) (if_pos length)

theorem State.bare_nil (owner : State → Answer) : w.bare [] owner = owner w := rfl

/-- Settles O27: the copy taken, and the image valid as its writes verified. -/
theorem storeSaveAndItsEnd : Obligations.StoreSaveAndItsEnd := by
  refine ⟨fun s w tag taken => ⟨fun idle => ?save, fun busy => ?busy⟩, fun s v t working saving => ?ends⟩
  case save =>
    refine State.requestCommand_of_accept taken (owner := State.answerSave []) ?_
    rw [State.answerSave, State.bare_nil, if_neg (by simp [idle])]
    rfl
  case busy =>
    refine State.requestCommand_of_refuse taken (owner := State.answerSave []) ?_
    rw [State.answerSave, State.bare_nil, if_pos (Option.isSome_iff_ne_none.2 busy)]
  case ends =>
    refine (State.command_of_working working _).trans ?_
    rw [State.endSave, saving]
    rfl

end Sys2Proof.Machine
end
section
/-! LINE_RUN, LINE_PAUSE, its completion, and LINE_SERVICE (O28, O29). -/

namespace Sys2Proof.Machine

variable {s w u : State} {tag : Byte} {m : LineMode} {q : Option PendingMode}

theorem State.setMode_of_ne (other : s.line.mode ≠ m) :
    s.setMode m q = { s with
      line := { s.line with mode := m, pendingMode := q }, notices := queueNotice s.notices (.lineMode m q) } :=
  if_neg other

/-! ## The homing asked for -/

theorem State.askHoming_of_lost (lost : s.positioner.state ∈ [PositionerState.unhomed, .lost, .failed])
    (off : s.positioner.onMark = false) :
    s.askHoming = { s with positioner := { s.positioner with state := .homing, markSeen := false } } := by
  simp only [List.mem_cons, List.not_mem_nil, or_false] at lost
  rcases lost with state | state | state <;> simp [State.askHoming, state, off]

theorem State.askHoming_of_onMark (lost : s.positioner.state ∈ [PositionerState.unhomed, .lost, .failed])
    (on : s.positioner.onMark = true) : s.askHoming = s.homed := by
  simp only [List.mem_cons, List.not_mem_nil, or_false] at lost
  rcases lost with state | state | state <;> simp [State.askHoming, state, on]

/-- A homing that nobody asked for changes the positioner alone (R54). -/
theorem State.homed_of_unasked (unasked : s.line.pendingMode ≠ some .run) (station : s.station.awaitHoming = false) :
    s.homed = { s with positioner := { s.positioner with
      state := .homed, position := 0, move := none, markSeen := false } } := by
  have line : ({ s with positioner := { s.positioner with
      state := .homed, position := 0, move := none, markSeen := false } } : State).line.pendingMode ≠ some .run :=
    unasked
  rw [State.homed, State.homingEnds, if_neg line, State.stationHomed]
  exact if_neg (by simp [station])

/-! ## LINE_RUN -/

section Run

variable (taken : s.Takes w 0x40 tag [])

include taken

theorem exec_lineRun_of_accept (answer : State.answerRun [] w = u.accept) :
    exec (.lineRun tag []) s = .next (u.answered 0x40 tag .ok .none).finish :=
  State.requestCommand_of_accept taken (owner := State.answerRun []) answer

end Run

theorem State.answerRun_of_away (paused : w.line.mode = .paused) (free : w.line.pendingMode = none)
    (away : w.positioner.state ≠ .homed) :
    State.answerRun [] w = (w.setPendingMode (some .run)).askHoming.accept := by
  simp only [State.answerRun, State.bare_nil, paused, free, away, if_false]

theorem State.answerRun_of_service (service : w.line.mode = .service) :
    State.answerRun [] w = (w.setMode .paused (some .run)).askHoming.accept := by
  simp only [State.answerRun, State.bare_nil, service]

/-- Settles O28, mode by mode. -/
theorem lineRunByMode : Obligations.LineRunByMode := by
  intro s w tag taken
  refine ⟨fun paused free homed => ?run, fun paused free lost off => ?homing, fun paused pending => ?again,
    fun running pending => ?withdrawn, fun running free => ?running, fun service lost off => ?service,
    fun stopped => ?stopped⟩
  case run =>
    have answer : State.answerRun [] w = (w.setMode .running none).accept := by
      simp only [State.answerRun, State.bare_nil, paused, free, homed, if_true]
    have line : ({ w.line with mode := .running, pendingMode := none } : LineUnit) =
        { w.line with mode := .running } := by
      rw [← free]
    rw [exec_lineRun_of_accept taken answer, State.setMode_of_ne (by simp [paused]), line]
  case homing =>
    have away : w.positioner.state ≠ .homed := fun homed => by simp [homed] at lost
    have begun : (w.setPendingMode (some .run)).askHoming = _ := State.askHoming_of_lost lost off
    rw [exec_lineRun_of_accept taken (State.answerRun_of_away paused free away), begun, State.setPendingMode]
  case again => exact exec_lineRun_of_accept taken (by simp only [State.answerRun, State.bare_nil, paused, pending])
  case withdrawn =>
    have answer : State.answerRun [] w = (w.setPendingMode none).accept := by
      simp only [State.answerRun, State.bare_nil, running, pending]
    rw [exec_lineRun_of_accept taken answer, State.setPendingMode]
  case running => exact exec_lineRun_of_accept taken (by simp only [State.answerRun, State.bare_nil, running, free])
  case service =>
    have other : w.line.mode ≠ .paused := by simp [service]
    rw [exec_lineRun_of_accept taken (State.answerRun_of_service service), State.setMode_of_ne other,
      State.askHoming_of_lost (by exact lost) (by exact off)]
  case stopped =>
    refine State.requestCommand_of_refuse taken (owner := State.answerRun []) ?_
    simp only [State.answerRun, State.bare_nil, stopped]

/-! ## LINE_PAUSE and PAUSE_COMPLETE -/

theorem exec_linePause_of_accept (taken : s.Takes w 0x41 tag []) (answer : State.answerPause [] w = u.accept) :
    exec (.linePause tag []) s = .next (u.answered 0x41 tag .ok .none).finish :=
  State.requestCommand_of_accept taken (owner := State.answerPause []) answer

theorem State.answerPause_of_running (running : w.line.mode = .running) (free : w.line.pendingMode = none) :
    State.answerPause [] w = (w.setPendingMode (some .pause)).holdWaiting.completePause.accept := by
  simp only [State.answerPause, State.bare_nil, running, free]

theorem State.answerPause_of_service (service : w.line.mode = .service) :
    State.answerPause [] w = (w.setMode .paused none).askHoming.accept := by
  simp only [State.answerPause, State.bare_nil, service]

theorem State.holdWaiting_of_other (other : s.station.state ≠ .waitCanister) : s.holdWaiting = s :=
  if_neg fun ⟨waits, _⟩ => other waits

theorem State.not_waiting_of_atRest (rest : s.allAtRest = true) : s.station.state ≠ .waitCanister := by
  intro waits
  simp [State.allAtRest, waits, StationState.atRest] at rest

theorem State.completePause_of_atRest (running : s.line.mode = .running) (pending : s.line.pendingMode = some .pause)
    (rest : s.allAtRest = true) : s.completePause = { s with
      line := { s.line with mode := .paused, pendingMode := none }
      notices := queueNotice s.notices (.lineMode .paused none) } := by
  rw [State.completePause, if_pos ⟨running, pending, rest⟩, State.setMode_of_ne (by simp [running])]

theorem State.completePause_of_working (working : s.allAtRest = false) : s.completePause = s :=
  if_neg fun ⟨_, _, rest⟩ => by simp [working] at rest

/-- A pause asked for while nothing waits for its canister. -/
theorem State.pause_of_not_waiting (other : w.station.state ≠ .waitCanister) :
    (w.setPendingMode (some .pause)).holdWaiting = w.setPendingMode (some .pause) :=
  State.holdWaiting_of_other other

/-! ## LINE_SERVICE -/

theorem State.serviceAllowed_iff : s.serviceAllowed = true ↔
    s.line.mode = .paused ∧ s.line.pendingMode = none ∧ s.positioner.state ≠ .homing ∧
      s.positioner.state ≠ .moving ∧ s.station.entriesPending = false := by
  simp [State.serviceAllowed, and_assoc]

/-- Settles O29, mode by mode. -/
theorem linePauseAndLineService : Obligations.LinePauseAndLineService := by
  refine ⟨⟨fun s w tag taken => ⟨fun running free other working => ?stands, fun running free rest => ?ends,
      fun running pending => ?again, fun paused => ?paused, fun service lost => ⟨fun off => ?homing, fun on station =>
      ?homed⟩, fun stopped => ?stopped⟩, fun s working running pending => ⟨fun rest => ?complete, fun works =>
      ?incomplete⟩⟩, fun s w tag taken => ⟨fun allowed => ?service, fun barred => ?refused⟩⟩
  case stands =>
    have unchanged : (w.setPendingMode (some .pause)).completePause = _ := State.completePause_of_working working
    rw [exec_linePause_of_accept taken (State.answerPause_of_running running free), State.pause_of_not_waiting other,
      unchanged, State.setPendingMode]
  case ends =>
    have complete : (w.setPendingMode (some .pause)).completePause = _ :=
      State.completePause_of_atRest running rfl rest
    rw [exec_linePause_of_accept taken (State.answerPause_of_running running free),
      State.pause_of_not_waiting (State.not_waiting_of_atRest rest), complete, State.setPendingMode]
  case again =>
    exact exec_linePause_of_accept taken (by simp only [State.answerPause, State.bare_nil, running, pending])
  case paused =>
    have answer : State.answerPause [] w = (w.setPendingMode none).accept := by
      simp only [State.answerPause, State.bare_nil, paused]
    rw [exec_linePause_of_accept taken answer, State.setPendingMode]
  case homing =>
    have other : w.line.mode ≠ .paused := by simp [service]
    rw [exec_linePause_of_accept taken (State.answerPause_of_service service), State.setMode_of_ne other,
      State.askHoming_of_lost (by exact lost) (by exact off)]
  case homed =>
    have other : w.line.mode ≠ .paused := by simp [service]
    rw [exec_linePause_of_accept taken (State.answerPause_of_service service), State.setMode_of_ne other,
      State.askHoming_of_onMark (by exact lost) (by exact on), State.homed_of_unasked (by simp) (by exact station)]
  case stopped =>
    refine State.requestCommand_of_refuse taken (owner := State.answerPause []) ?_
    simp only [State.answerPause, State.bare_nil, stopped]
  case complete =>
    refine (State.command_of_working working _).trans ?_
    rw [State.completePause_of_atRest running pending rest]
  case incomplete =>
    refine (State.command_of_working working _).trans ?_
    rw [State.completePause_of_working works]
  case service =>
    have answer : State.answerService [] w = (w.setMode .service none).unhome.accept := by
      rw [State.answerService, State.bare_nil, if_pos (State.serviceAllowed_iff.2 allowed)]
    have other : w.line.mode ≠ .service := by simp [allowed.1]
    refine (State.requestCommand_of_accept taken (owner := State.answerService []) answer).trans ?_
    rw [State.setMode_of_ne other, State.unhome]
  case refused =>
    refine State.requestCommand_of_refuse taken (owner := State.answerService []) ?_
    rw [State.answerService, State.bare_nil, if_neg (mt State.serviceAllowed_iff.1 barred)]

end Sys2Proof.Machine
end
section
/-! CLEAR_LINE (O31): every order on the line loses its tin, then the stations are cleared. -/

namespace Sys2Proof.Machine

variable {s w : State} {tag : Byte} {n m : Nat} {o : Order} {l : Lane}

theorem State.order?_changeOrder_self (live : s.order? n = some o) (st : OrderState) :
    (s.changeOrder n st).order? n = some { o with state := st } := by
  rw [State.changeOrder, live]
  dsimp only
  split
  · next same => rw [live, ← same]
  · rw [State.order?_notifyOrder, State.order?_modOrder_self live (by intro; rfl)]

theorem State.order?_modOrder_changeOrder {f : Order → Order} (live : s.order? n = some o)
    (keeps : ∀ q, (f q).number = q.number) (st : OrderState) :
    ((s.modOrder n f).changeOrder n st).order? n = some { f o with state := st } :=
  State.order?_changeOrder_self (State.order?_modOrder_self live keeps) st

theorem State.order?_changeOrder_of_ne (other : m ≠ n) (st : OrderState) :
    (s.changeOrder n st).order? m = s.order? m := by
  unfold State.changeOrder
  split
  · split
    · rfl
    · rw [State.order?_notifyOrder, State.order?_modOrder_of_ne (by intro; rfl) other]
  · rfl

/-- A live order is the one of its number while no two orders have one number (R1). -/
theorem State.order?_of_mem (distinct : (s.book.orders.map Order.number).Nodup) (mem : o ∈ s.book.orders) :
    s.order? o.number = some o := by
  refine List.find?_eq_some_iff_append.2 ⟨by simp, ?_⟩
  obtain ⟨before, after, split⟩ := List.append_of_mem mem
  refine ⟨before, after, split, fun q hq => ?_⟩
  rw [split, List.map_append, List.map_cons] at distinct
  have apart := (List.nodup_append.1 distinct).2.2 q.number (List.mem_map_of_mem hq) o.number (List.mem_cons_self ..)
  simpa using apart

/-! ## One order that loses its tin (R21) -/

/-- The record R21 leaves of an order that loses its tin, if it leaves one. -/
def State.afterLoss (s : State) (o : Order) : Option Order :=
  match s.lossOf o with
  | .freed => none
  | .interrupted => some { o.interrupt (s.keptPlan o) with state := .interrupted }
  | .queued => some { o.requeue with state := .queued }

theorem State.lossOf_eq_freed : s.lossOf o = .freed ↔ o.pendingEnd ≠ none := by
  rw [← Option.isSome_iff_ne_none, State.lossOf]
  cases o.pendingEnd.isSome
  · cases h : o.receivedColourant (s.keptPlan o) <;> simp
  · simp

theorem State.lossOf_of_tinted (unended : o.pendingEnd = none) (tinted : o.receivedColourant (s.keptPlan o) = true) :
    s.lossOf o = .interrupted := by
  rw [State.lossOf, unended, if_neg (by simp), if_pos tinted]

theorem State.lossOf_of_clean (unended : o.pendingEnd = none) (clean : o.receivedColourant (s.keptPlan o) = false) :
    s.lossOf o = .queued := by
  rw [State.lossOf, unended, if_neg (by simp), if_neg (by simp [clean])]

/-- What becomes of an order is read from its record and from the station. -/
theorem State.afterLoss_of_station (same : s.station = w.station) : s.afterLoss o = w.afterLoss o := by
  have plan : s.keptPlan o = w.keptPlan o := by simp only [State.keptPlan, State.stationPlan, same]
  simp only [State.afterLoss, State.lossOf, plan]

/-- An order loses its tin: freed with its pending end, or its record changed and nothing else of the book. -/
theorem State.loseTin_cases (s : State) (n : Nat) :
    (∃ o e, s.order? n = some o ∧ o.pendingEnd = some e ∧ s.loseTin n = s.freeOrder n e.reason) ∨
    ((s.loseTin n).lanes = s.lanes ∧ (s.loseTin n).book.slot = s.book.slot) := by
  have changed {f : Order → Order} {st : OrderState} :
      ((s.modOrder n f).changeOrder n st).lanes = s.lanes ∧
        ((s.modOrder n f).changeOrder n st).book.slot = s.book.slot := by
    refine ⟨by rw [State.changeOrder_eq, State.modOrder_lanes], ?_⟩
    unfold State.changeOrder
    split
    · split
      · rfl
      · rw [State.notifyOrder_eq]
        rfl
    · rfl
  unfold State.loseTin
  split
  · exact .inr ⟨rfl, rfl⟩
  · next o live =>
    split
    · next freed =>
      obtain ⟨e, ended⟩ := Option.ne_none_iff_exists'.1 (State.lossOf_eq_freed.1 freed)
      refine .inl ⟨o, e, live, ended, ?_⟩
      rw [State.reportLift, State.pendingEndOf, live, Option.bind_some, ended]
    · exact .inr changed
    · exact .inr changed

theorem State.order?_loseTin_self (live : s.order? n = some o) : (s.loseTin n).order? n = s.afterLoss o := by
  simp only [State.loseTin, live, State.afterLoss]
  cases loss : s.lossOf o with
  | freed =>
    obtain ⟨e, ended⟩ := Option.ne_none_iff_exists'.1 (State.lossOf_eq_freed.1 loss)
    simp only [State.reportLift, State.pendingEndOf, live, Option.bind_some, ended]
    exact State.order?_freeOrder ..
  | interrupted => exact State.order?_modOrder_changeOrder live (by intro; rfl) _
  | queued => exact State.order?_modOrder_changeOrder live (by intro; rfl) _

theorem State.order?_reportLift_of_ne (other : m ≠ n) : (s.reportLift n).order? m = s.order? m := by
  unfold State.reportLift
  split
  · exact State.order?_freeOrder_of_ne s n m _ other
  · rfl

theorem State.order?_loseTin_of_ne (other : m ≠ n) : (s.loseTin n).order? m = s.order? m := by
  unfold State.loseTin
  split
  · rfl
  · split
    · exact State.order?_reportLift_of_ne other
    · rw [State.order?_changeOrder_of_ne other, State.order?_modOrder_of_ne (by intro; rfl) other]
    · rw [State.order?_changeOrder_of_ne other, State.order?_modOrder_of_ne (by intro; rfl) other]

/-- What the loss of a tin touches: the notices, the orders, the return slot and the lanes (R21). -/
theorem State.loseTin_eq (s : State) (n : Nat) :
    s.loseTin n = { s with
      book := (s.loseTin n).book, notices := (s.loseTin n).notices, lanes := (s.loseTin n).lanes } := by
  unfold State.loseTin
  split
  · rfl
  · split
    · rw [State.reportLift_eq]
    · rw [State.changeOrder_eq]
      rfl
    · rw [State.changeOrder_eq]
      rfl

/-! ## The orders on the line, one after another -/

/-- Every one of some orders loses its tin. -/
def State.loseTins (s : State) (os : List Order) : State := os.foldl (fun t o => t.loseTin o.number) s

theorem State.loseTins_cons (s : State) (o : Order) (os : List Order) :
    s.loseTins (o :: os) = (s.loseTin o.number).loseTins os := rfl

theorem State.loseTins_eq (s : State) (os : List Order) :
    s.loseTins os = { s with
      book := (s.loseTins os).book, notices := (s.loseTins os).notices, lanes := (s.loseTins os).lanes } := by
  induction os generalizing s with
  | nil => rfl
  | cons o rest ih =>
    rw [State.loseTins_cons, ih, State.loseTin_eq]

theorem State.loseTins_station (s : State) (os : List Order) : (s.loseTins os).station = s.station := by
  rw [State.loseTins_eq]

theorem State.loseTin_station (s : State) (n : Nat) : (s.loseTin n).station = s.station := by
  rw [State.loseTin_eq]

theorem State.order?_loseTins_of_notMem {os : List Order} (absent : m ∉ os.map Order.number) :
    (s.loseTins os).order? m = s.order? m := by
  induction os generalizing s with
  | nil => rfl
  | cons o rest ih =>
    simp only [List.map_cons, List.mem_cons, not_or] at absent
    obtain ⟨other, absent⟩ := absent
    rw [State.loseTins_cons, ih absent, State.order?_loseTin_of_ne other]

/-- The orders of a list are live, no two of one number. -/
structure State.Lists (s : State) (os : List Order) : Prop where
  distinct : (os.map Order.number).Nodup
  live : ∀ o ∈ os, s.order? o.number = some o

theorem State.Lists.tail {os : List Order} (lists : s.Lists (o :: os)) : (s.loseTin o.number).Lists os := by
  have ⟨absent, distinct⟩ := List.nodup_cons.1 lists.distinct
  refine ⟨distinct, fun q hq => ?_⟩
  have other : q.number ≠ o.number := fun same => absent (same ▸ List.mem_map_of_mem hq)
  rw [State.order?_loseTin_of_ne other, lists.live q (List.mem_cons_of_mem _ hq)]

theorem State.order?_loseTins_of_mem {os : List Order} (lists : s.Lists os) (mem : o ∈ os) :
    (s.loseTins os).order? o.number = s.afterLoss o := by
  induction os generalizing s with
  | nil => cases mem
  | cons q rest ih =>
    rw [State.loseTins_cons]
    rcases List.mem_cons.1 mem with rfl | mem
    · rw [State.order?_loseTins_of_notMem (List.nodup_cons.1 lists.distinct).1]
      exact State.order?_loseTin_self (lists.live o (List.mem_cons_self ..))
    · rw [ih lists.tail mem]
      exact State.afterLoss_of_station (State.loseTin_station ..)

/-- The slot stays, or is emptied of an order freed (R20). -/
theorem State.loseTins_slot {os : List Order} (lists : s.Lists os) :
    (s.loseTins os).book.slot = s.book.slot ∨
      (s.loseTins os).book.slot = none ∧ ∃ o ∈ os, o.pendingEnd ≠ none ∧ s.book.slot = some o.number := by
  induction os generalizing s with
  | nil => exact .inl rfl
  | cons o rest ih =>
    rw [State.loseTins_cons]
    have step : (s.loseTin o.number).book.slot = s.book.slot ∨ (s.loseTin o.number).book.slot = none ∧
        o.pendingEnd ≠ none ∧ s.book.slot = some o.number := by
      rcases State.loseTin_cases s o.number with ⟨q, e, live, ended, freed⟩ | ⟨-, slot⟩
      · have same := Option.some.inj ((lists.live o (List.mem_cons_self ..)).symm.trans live)
        rw [freed, State.freeOrder_of_live live, same]
        by_cases held : s.book.slot = some q.number
        · exact .inr ⟨if_pos held, by simp [ended], held⟩
        · exact .inl (if_neg held)
      · exact .inl slot
    rcases ih lists.tail with kept | ⟨emptied, q, mem, ended, held⟩
    · rcases step with same | ⟨none_left, ended, held⟩
      · exact .inl (kept.trans same)
      · exact .inr ⟨kept.trans none_left, o, List.mem_cons_self .., ended, held⟩
    · rcases step with same | ⟨none_left, -, -⟩
      · exact .inr ⟨emptied, q, List.mem_cons_of_mem _ mem, ended, same ▸ held⟩
      · simp [none_left] at held

theorem LaneRecord.freed_present (r : LaneRecord) (n : Nat) : (r.freed n).present = r.present := by
  unfold LaneRecord.freed
  split
  · rfl
  · split
    · split <;> rfl
    · rfl

theorem LaneRecord.freed_reserved {r : LaneRecord} (reserved : r.state = .reserved) (n : Nat) :
    (r.freed n).state = .reserved := by
  unfold LaneRecord.freed
  split
  · exact reserved
  · split
    · simp [reserved]
    · exact reserved

/-- A lane through the losses: its sensor and a reservation stay, and it is untouched while no order freed has its
tin there (R141). -/
theorem State.loseTins_lane {os : List Order} (lists : s.Lists os) (l : Lane) :
    (s.loseTins os).lanes[l].present = s.lanes[l].present ∧
    (s.lanes[l].state = .reserved → (s.loseTins os).lanes[l].state = .reserved) ∧
    ((∀ o ∈ os, o.pendingEnd ≠ none → s.lanes[l].tin.map TinRef.order ≠ some o.number) →
      (s.loseTins os).lanes[l] = s.lanes[l]) := by
  induction os generalizing s with
  | nil => exact ⟨rfl, id, fun _ => rfl⟩
  | cons o rest ih =>
    rw [State.loseTins_cons]
    obtain ⟨present, reserved, untouched⟩ := ih lists.tail
    rcases State.loseTin_cases s o.number with ⟨q, e, live, ended, freed⟩ | ⟨lanes, -⟩
    · have same := Option.some.inj ((lists.live o (List.mem_cons_self ..)).symm.trans live)
      subst same
      have lane : (s.loseTin o.number).lanes[l] = s.lanes[l].freed o.number := by
        rw [freed]
        exact State.freeOrder_lane live _ l
      rw [lane] at present reserved untouched
      refine ⟨present.trans (LaneRecord.freed_present ..), fun held => reserved (LaneRecord.freed_reserved held _),
        fun elsewhere => ?_⟩
      have kept := LaneRecord.freed_of_other (elsewhere o (List.mem_cons_self ..) (by simp [ended]))
      rw [kept] at untouched
      exact untouched fun q hq => elsewhere q (List.mem_cons_of_mem _ hq)
    · rw [lanes] at present reserved untouched
      exact ⟨present, reserved, fun elsewhere => untouched fun q hq => elsewhere q (List.mem_cons_of_mem _ hq)⟩

theorem State.freeOrder_counts (s : State) (n : Nat) (r : EndReason) :
    (s.freeOrder n r).book.admission = s.book.admission ∧ (s.freeOrder n r).book.lastTin = s.book.lastTin := by
  unfold State.freeOrder
  split <;> exact ⟨rfl, rfl⟩

theorem State.changeOrder_counts (s : State) (n : Nat) (st : OrderState) :
    (s.changeOrder n st).book.admission = s.book.admission ∧
      (s.changeOrder n st).book.lastTin = s.book.lastTin := by
  unfold State.changeOrder
  split
  · split
    · exact ⟨rfl, rfl⟩
    · rw [State.notifyOrder_eq]
      exact ⟨rfl, rfl⟩
  · exact ⟨rfl, rfl⟩

theorem State.loseTin_counts (s : State) (n : Nat) :
    (s.loseTin n).book.admission = s.book.admission ∧ (s.loseTin n).book.lastTin = s.book.lastTin := by
  unfold State.loseTin
  split
  · exact ⟨rfl, rfl⟩
  · split
    · unfold State.reportLift
      split
      · exact State.freeOrder_counts ..
      · exact ⟨rfl, rfl⟩
    · exact State.changeOrder_counts ..
    · exact State.changeOrder_counts ..

theorem State.loseTins_counts (s : State) (os : List Order) :
    (s.loseTins os).book.admission = s.book.admission ∧ (s.loseTins os).book.lastTin = s.book.lastTin := by
  induction os generalizing s with
  | nil => exact ⟨rfl, rfl⟩
  | cons o rest ih =>
    have ⟨admission, lastTin⟩ := ih (s.loseTin o.number)
    have ⟨admission', lastTin'⟩ := State.loseTin_counts s o.number
    exact ⟨admission.trans admission', lastTin.trans lastTin'⟩

/-! ## The line cleared -/

theorem State.clearStations_lane (s : State) (l : Lane) : s.clearStations.lanes[l] = s.lanes[l].clearedLine :=
  getElem_ofFn_fin _ l

theorem exec_clearLine_of_held (taken : s.Takes w 0x44 tag []) (held : w.line.mode ∈ [LineMode.paused, .stopped]) :
    exec (.clearLine tag []) s = .next ((w.loseTins (w.book.orders.filter w.onLine)).clearStations.answered 0x44 tag .ok
      (.cleared (w.countLoss (w.book.orders.filter w.onLine) .interrupted)
        (w.countLoss (w.book.orders.filter w.onLine) .queued)
        (w.countLoss (w.book.orders.filter w.onLine) .freed))).finish := by
  refine (State.requestCommand_of_takes taken (State.answerClearLine [])).trans ?_
  simp only [List.mem_cons, List.not_mem_nil, or_false] at held
  rcases held with mode | mode
  all_goals
    simp only [State.answerClearLine, State.bare_nil, mode]
    rfl

theorem exec_clearLine_of_moving (taken : s.Takes w 0x44 tag [])
    (moving : w.line.mode ∈ [LineMode.running, .service]) :
    exec (.clearLine tag []) s = .next (w.answered 0x44 tag .mode .none).finish := by
  refine State.requestCommand_of_refuse taken (owner := State.answerClearLine []) ?_
  simp only [List.mem_cons, List.not_mem_nil, or_false] at moving
  rcases moving with mode | mode <;> simp only [State.answerClearLine, State.bare_nil, mode]

/-- Settles O31: what the losses leave, then what the clearing of the stations leaves. -/
theorem clearLineEmptiesTheLine : Obligations.ClearLineEmptiesTheLine := by
  intro s w tag taken
  refine ⟨exec_clearLine_of_moving taken, fun held distinct => ?_⟩
  have lists : w.Lists (w.book.orders.filter w.onLine) :=
    ⟨(List.filter_sublist.map _).nodup distinct, fun o ho => State.order?_of_mem distinct (List.mem_filter.1 ho).1⟩
  have lost := State.loseTins_eq w (w.book.orders.filter w.onLine)
  have ⟨admission, lastTin⟩ := State.loseTins_counts w (w.book.orders.filter w.onLine)
  refine ⟨_, exec_clearLine_of_held taken held, ?station, rfl, ?lidder, ?intake, ?bayOne, ?bayTwo, ?moment, ?weigh,
    admission, lastTin, ?slot, fun l => ⟨fun reserved => ?reserved, fun free elsewhere => ?lane⟩, ?frame,
    fun o mem => ⟨fun off => ?off, fun on => ⟨fun ended => ?freed, fun unended tinted => ?interrupted,
      fun unended clean => ?queued⟩⟩⟩
  case station | lidder | intake | bayOne | bayTwo | moment | weigh =>
    rw [lost]
    rfl
  case frame =>
    rw [lost]
    rfl
  case slot =>
    rcases State.loseTins_slot lists with same | ⟨emptied, o, mem, ended, slot⟩
    · exact .inl same
    · have ⟨live, on⟩ := List.mem_filter.1 mem
      exact .inr ⟨emptied, o, live, on, ended, slot⟩
  case reserved =>
    obtain ⟨present, kept, -⟩ := State.loseTins_lane lists l
    rw [State.clearStations_lane, LaneRecord.clearedLine, if_pos (kept reserved), present]
  case lane =>
    obtain ⟨-, -, untouched⟩ := State.loseTins_lane lists l
    have same := untouched fun o mem ended =>
      have ⟨live, on⟩ := List.mem_filter.1 mem
      elsewhere o live on ended
    rw [State.clearStations_lane, same, LaneRecord.clearedLine, if_neg free]
  case off =>
    have absent : o.number ∉ (w.book.orders.filter w.onLine).map Order.number := by
      intro listed
      obtain ⟨q, mem', same⟩ := List.mem_map.1 listed
      have ⟨live, on⟩ := List.mem_filter.1 mem'
      have one := (State.order?_of_mem distinct live).symm.trans (same ▸ State.order?_of_mem distinct mem)
      rw [Option.some.inj one, off] at on
      cases on
    exact (State.order?_loseTins_of_notMem absent).trans (State.order?_of_mem distinct mem)
  all_goals have after := State.order?_loseTins_of_mem lists (List.mem_filter.2 ⟨mem, on⟩)
  case freed =>
    rw [State.afterLoss, State.lossOf_eq_freed.2 ended] at after
    exact after
  case interrupted =>
    rw [State.afterLoss, State.lossOf_of_tinted unended tinted] at after
    exact after
  case queued =>
    rw [State.afterLoss, State.lossOf_of_clean unended clean] at after
    exact ⟨_, after, rfl, rfl, rfl, rfl, rfl⟩

end Sys2Proof.Machine
end

section
/-! What stops at an opening of the e-stop chain, unit by unit (R92, R118, R127, R138). -/

namespace Sys2Proof.Machine

variable {s u : State} {count : Option Nat} {n : Nat} {d e : Dest} {b : BayId}

/-! ## What each unit touches -/

theorem State.haltStation_eq (s : State) (i : Option Nat) (r : ResumePoint) :
    s.haltStation i r = { s with
      book := (s.haltStation i r).book, notices := (s.haltStation i r).notices
      station := { s.station with state := .halted, resume := some r, finding := none, awaitHoming := false } } := by
  unfold State.haltStation
  rw [State.raise_eq]
  rfl

/-- A station HALTED, as its record and its notice (R92). -/
theorem State.haltStation_of_served (serves : u.served = n) (i : Option Nat) (r : ResumePoint) :
    u.haltStation i r = ((u.hold n .dispense .estop false i).notify
      (.stationFault n .dispense .estop i u.pendingManual .none)).modStation fun st =>
        { st with state := .halted, resume := some r, finding := none, awaitHoming := false } := by
  rw [← serves]
  rfl

theorem State.endStroke_served (s : State) (count : Option Nat) : (s.endStroke count).served = s.served := by
  rw [State.endStroke_eq]
  rfl

theorem State.endStroke_curIndex (s : State) (count : Option Nat) : (s.endStroke count).curIndex = s.curIndex := by
  unfold State.endStroke
  split
  · rfl
  · next c e current =>
    have cur := State.cur_of_current current
    dsimp only
    split
    all_goals
      simp only [State.curIndex, State.modCur, State.modStation, State.modEntry, State.modPlan, Option.map_map]
    · rw [State.debit_eq, cur]
      rfl
    · rw [cur]
      rfl

/-- The station stops (R92): it stays as it is, or it is HALTED with a stroke or a settle ended before. -/
theorem State.stopStation_cases (s : State) (count : Option Nat) :
    (s.station.state ∉ [StationState.taring, .planning, .moving, .stroking, .settling, .verifying, .waitCanister] ∧
      s.stopStation count = s) ∨
    ∃ (t : State) (i : Option Nat) (r : ResumePoint), s.stopStation count = t.haltStation i r ∧
      t = { s with canisters := t.canisters, station := t.station, weigh := t.weigh, notices := t.notices } ∧
      (s.station.state ≠ .stroking → t.canisters = s.canisters) := by
  unfold State.stopStation
  split
  case h_1 => exact .inr ⟨_, _, _, rfl, rfl, fun _ => rfl⟩
  case h_2 => exact .inr ⟨_, _, _, rfl, rfl, fun _ => rfl⟩
  case h_3 => exact .inr ⟨_, _, _, rfl, rfl, fun _ => rfl⟩
  case h_4 stroking =>
    dsimp only
    split
    · exact .inr ⟨_, _, _, rfl, by rw [State.endStroke_eq]; rfl, fun other => absurd stroking other⟩
    · exact .inr ⟨_, _, _, rfl, by rw [State.endStroke_eq], fun other => absurd stroking other⟩
  case h_5 | h_6 =>
    dsimp only
    split
    · exact .inr ⟨_, _, _, rfl, rfl, fun _ => rfl⟩
    · split
      · refine .inr ⟨_, _, _, rfl, ?_, fun _ => ?_⟩
        · split <;> rfl
        · split <;> rfl
      · exact .inr ⟨_, _, _, rfl, rfl, fun _ => rfl⟩
  case h_7 => exact .inr ⟨_, _, _, rfl, rfl, fun _ => rfl⟩
  case h_8 => exact .inr ⟨_, _, _, rfl, rfl, fun _ => rfl⟩
  all_goals
    rename_i state
    exact .inl ⟨by simp [state], rfl⟩

theorem State.stopStation_eq (s : State) (count : Option Nat) :
    s.stopStation count = { s with
      book := (s.stopStation count).book, notices := (s.stopStation count).notices
      canisters := (s.stopStation count).canisters, station := (s.stopStation count).station
      weigh := (s.stopStation count).weigh } := by
  rcases s.stopStation_cases count with ⟨-, same⟩ | ⟨t, i, r, halted, frame, -⟩
  · rw [same]
  · rw [halted, State.haltStation_eq, frame]

theorem State.stopStation_state (s : State) (count : Option Nat) : (s.stopStation count).station.state ∉
    [StationState.taring, .planning, .moving, .stroking, .settling, .verifying, .waitCanister] := by
  rcases s.stopStation_cases count with ⟨rest, same⟩ | ⟨t, i, r, halted, -, -⟩
  · rw [same]
    exact rest
  · rw [halted, State.haltStation_eq]
    simp

theorem State.stopStation_canisters (other : s.station.state ≠ .stroking) :
    (s.stopStation count).canisters = s.canisters := by
  rcases s.stopStation_cases count with ⟨-, same⟩ | ⟨t, i, r, halted, -, canisters⟩
  · rw [same]
  · rw [halted, State.haltStation_eq]
    exact canisters other

/-- A record after the stop of its transfer (R118). -/
def Transfer.halted (t : Transfer) : Transfer :=
  if t.state = .running then { t with state := .halted, retried := false } else t

theorem State.stopTransfer_eq (s : State) (d : Dest) :
    s.stopTransfer d = { s with
      book := (s.stopTransfer d).book, notices := (s.stopTransfer d).notices
      conveyor := s.conveyor.setRecord d ((s.record d).map Transfer.halted) } := by
  have unchanged : ∀ r, s.record d = r → s.conveyor.setRecord d r = s.conveyor := by
    rintro _ rfl
    cases d with
    | bay b => cases b <;> rfl
    | _ => rfl
  unfold State.stopTransfer
  split
  · next t record =>
    rw [record, Option.map_some, Transfer.halted]
    split
    · rw [State.faultAtDest_eq]
      rfl
    · rw [unchanged _ record]
  · next record => rw [record, Option.map_none, unchanged _ record]

theorem State.stopTransfer_record (s : State) (d e : Dest) :
    (s.stopTransfer d).record e = if e = d then (s.record d).map Transfer.halted else s.record e := by
  have set : (s.stopTransfer d).record e = (s.setRecord d ((s.record d).map Transfer.halted)).record e := by
    rw [State.stopTransfer_eq]
    rfl
  rw [set]
  split
  · next same => rw [same, State.record_setRecord]
  · next other => exact State.record_setRecord_of_ne s d e _ other

theorem State.stopBay_eq (s : State) (b : BayId) :
    s.stopBay b = { s with
      book := (s.stopBay b).book, notices := (s.stopBay b).notices
      bayOne := (s.stopBay b).bayOne, bayTwo := (s.stopBay b).bayTwo } := by
  unfold State.stopBay
  split
  · rfl
  · rw [State.faultAtDest_eq]
    cases b <;> rfl

theorem Bay.halted_atRest (y : Bay) : y.halted.state.atRest = true := by
  cases state : y.state <;> simp [Bay.halted, state, BayState.atRest]

theorem State.stopBay_atRest (s : State) (b c : BayId) (rest : c = b ∨ (s.bay c).state.atRest = true) :
    ((s.stopBay b).bay c).state.atRest = true := by
  unfold State.stopBay
  split
  · next still => exact rest.elim (fun same => same ▸ still) id
  · have kept (t : State) (n : Nat) (d : Dest) : (t.faultAtDest n d .estop false).bay c = t.bay c := by
      rw [State.faultAtDest_eq]
      cases c <;> rfl
    rw [kept]
    by_cases same : c = b
    · rw [same, State.bay_modBay]
      exact Bay.halted_atRest _
    · rw [State.bay_modBay_of_ne _ _ _ _ same]
      exact rest.resolve_left same

theorem State.stopLidder_eq (s : State) :
    s.stopLidder = { s with
      book := s.stopLidder.book, notices := s.stopLidder.notices, lidder := s.lidder.halted } := by
  unfold State.stopLidder
  split
  · rw [State.faultAtDest_eq]
    rfl
  · next still =>
    have kept : s.lidder.halted = s.lidder := by
      rw [Lidder.halted, Option.not_isSome_iff_eq_none.1 still]
    rw [kept]

theorem Lidder.halted_atRest (l : Lidder) : l.halted.state.atRest = true := by
  cases state : l.state <;> simp [Lidder.halted, LidderState.haltPoint, state, LidderState.atRest]

theorem Lidder.halted_magazines (l : Lidder) : l.halted.magazines = l.magazines := by
  unfold Lidder.halted
  split <;> rfl

/-! ## States alike but for their notices -/

/-- Two states that differ at most in the notice queue. -/
def State.Alike (s t : State) : Prop := ∃ q, t = { s with notices := q }

namespace State.Alike

variable {s t u : State} {n : Nat} {d : Dest} {k : FaultKind} {x : Bool} {i : Option Nat}

theorem refl (s : State) : s.Alike s := ⟨_, rfl⟩

theorem trans (h : s.Alike t) (h' : t.Alike u) : s.Alike u := by
  obtain ⟨q, rfl⟩ := h
  obtain ⟨q', rfl⟩ := h'
  exact ⟨q', rfl⟩

theorem symm (h : s.Alike t) : t.Alike s := by
  obtain ⟨q, rfl⟩ := h
  exact ⟨s.notices, rfl⟩

theorem station (h : s.Alike t) : t.station = s.station := by
  obtain ⟨q, rfl⟩ := h
  rfl

theorem notify (h : s.Alike t) (a b : NoticeBody) : (s.notify a).Alike (t.notify b) := by
  obtain ⟨q, rfl⟩ := h
  exact ⟨_, rfl⟩

theorem notifyOrder (h : s.Alike t) : (s.notifyOrder n).Alike (t.notifyOrder n) := by
  have told (u : State) : u.Alike (u.notifyOrder n) := ⟨_, State.notifyOrder_eq u n⟩
  exact (told s).symm.trans (h.trans (told t))

theorem modOrder (h : s.Alike t) (f : Order → Order) : (s.modOrder n f).Alike (t.modOrder n f) := by
  obtain ⟨q, rfl⟩ := h
  exact ⟨q, rfl⟩

theorem modStation (h : s.Alike t) (f : Station → Station) : (s.modStation f).Alike (t.modStation f) := by
  obtain ⟨q, rfl⟩ := h
  exact ⟨q, rfl⟩

theorem abandonSettle (h : s.Alike t) : s.abandonSettle.Alike t.abandonSettle := by
  obtain ⟨q, rfl⟩ := h
  exact ⟨q, rfl⟩

theorem setRecord (h : s.Alike t) (r : Option Transfer) : (s.setRecord d r).Alike (t.setRecord d r) := by
  obtain ⟨q, rfl⟩ := h
  exact ⟨q, rfl⟩

theorem modBay (h : s.Alike t) {b : BayId} (f : Bay → Bay) : (s.modBay b f).Alike (t.modBay b f) := by
  obtain ⟨q, rfl⟩ := h
  cases b <;> exact ⟨q, rfl⟩

theorem modLidder (h : s.Alike t) (f : Lidder → Lidder) : (s.modLidder f).Alike (t.modLidder f) := by
  obtain ⟨q, rfl⟩ := h
  exact ⟨q, rfl⟩

theorem modEntry (h : s.Alike t) {j : Nat} (f : Entry → Entry) : (s.modEntry j f).Alike (t.modEntry j f) := by
  obtain ⟨q, rfl⟩ := h
  exact ⟨q, rfl⟩

theorem modCur (h : s.Alike t) (f : CurrentEntry → CurrentEntry) : (s.modCur f).Alike (t.modCur f) := by
  obtain ⟨q, rfl⟩ := h
  exact ⟨q, rfl⟩

theorem setEntry (h : s.Alike t) {j : Nat} {st : EntryState} : (s.setEntry j st).Alike (t.setEntry j st) :=
  h.modEntry _

theorem debit (h : s.Alike t) {p : Position} {m : Nat} : (s.debit p m).Alike (t.debit p m) := by
  obtain ⟨q, rfl⟩ := h
  have told (u : State) :
      ({ u with canisters := u.canisters.set p (u.canisters[p].debited m).disarmed } : State).Alike (u.debit p m) :=
    ⟨_, State.debit_eq u p m⟩
  exact (told s).symm.trans (trans ⟨q, rfl⟩ (told _))

/-- A fault raised depends on the notices in nothing (R6). -/
theorem hold (h : s.Alike t) : (s.hold n d k x i).Alike (t.hold n d k x i) := by
  obtain ⟨q, rfl⟩ := h
  have live : ({ s with notices := q } : State).order? n = s.order? n := rfl
  unfold State.hold
  rw [live]
  split
  · exact ⟨q, rfl⟩
  · split
    · exact ⟨q, rfl⟩
    · exact notifyOrder ⟨q, rfl⟩

theorem faultAtDest (h : s.Alike t) : (s.faultAtDest n d k x).Alike (t.faultAtDest n d k x) := h.hold.notify _ _

theorem haltStation (h : s.Alike t) {r : ResumePoint} : (s.haltStation i r).Alike (t.haltStation i r) := by
  have served : t.served = s.served := by rw [State.served, h.station, State.served]
  unfold State.haltStation State.raise
  rw [served]
  exact ((h.hold.notify _ _).modStation _).modStation _

theorem curIndex (h : s.Alike t) : t.curIndex = s.curIndex := by
  rw [State.curIndex, h.station, State.curIndex]

theorem endStroke (h : s.Alike t) {count : Option Nat} : (s.endStroke count).Alike (t.endStroke count) := by
  have current : t.current? = s.current? := by
    obtain ⟨q, rfl⟩ := h
    rfl
  unfold State.endStroke
  rw [current]
  split
  · exact h
  · dsimp only
    split
    · exact (h.debit.modEntry _).modCur _
    · exact (h.modEntry _).modCur _

theorem stopStation (h : s.Alike t) {count : Option Nat} : (s.stopStation count).Alike (t.stopStation count) := by
  unfold State.stopStation
  rw [h.station]
  split
  case h_1 => exact h.abandonSettle.haltStation
  case h_2 | h_3 | h_7 | h_8 =>
    rw [h.curIndex]
    exact h.haltStation
  case h_4 =>
    dsimp only
    rw [h.endStroke.curIndex]
    split
    · exact h.endStroke.setEntry.haltStation
    · exact h.endStroke.haltStation
  case h_5 | h_6 =>
    dsimp only
    rw [h.abandonSettle.curIndex, h.abandonSettle.station]
    split
    · exact h.abandonSettle.haltStation
    · split
      · split
        · exact h.abandonSettle.haltStation
        · exact h.abandonSettle.setEntry.haltStation
      · exact h.abandonSettle.haltStation
  all_goals exact h

theorem stopTransfer (h : s.Alike t) : (s.stopTransfer d).Alike (t.stopTransfer d) := by
  have record : t.record d = s.record d := by
    obtain ⟨q, rfl⟩ := h
    rfl
  unfold State.stopTransfer
  rw [record]
  split
  · split
    · exact (h.setRecord _).faultAtDest
    · exact h
  · exact h

theorem stopBay (h : s.Alike t) {b : BayId} : (s.stopBay b).Alike (t.stopBay b) := by
  have bay : t.bay b = s.bay b := by
    obtain ⟨q, rfl⟩ := h
    cases b <;> rfl
  unfold State.stopBay
  rw [bay]
  split
  · exact h
  · exact (h.modBay _).faultAtDest

theorem stopLidder (h : s.Alike t) : s.stopLidder.Alike t.stopLidder := by
  have lidder : t.lidder = s.lidder := by
    obtain ⟨q, rfl⟩ := h
    rfl
  unfold State.stopLidder
  rw [lidder]
  split
  · exact (h.modLidder _).faultAtDest
  · exact h

theorem stopUnit (h : s.Alike t) {count : Option Nat} (x : StopUnit) :
    (s.stopUnit count x).Alike (t.stopUnit count x) := by
  cases x with
  | station => exact h.stopStation
  | transfer d => exact h.stopTransfer
  | bay b => exact h.stopBay
  | lidder => exact h.stopLidder

/-- The units stop alike however the notices stand, and what they append is the same (R148). -/
theorem gatherStops (h : s.Alike t) {count : Option Nat} (units : List StopUnit) :
    (units.foldl (State.stopUnit count) s).Alike (t.gatherStops count units).1 ∧
      (t.gatherStops count units).2 = (s.gatherStops count units).2 := by
  induction units generalizing s t with
  | nil => exact ⟨h, rfl⟩
  | cons x rest ih =>
    have bare : ({ t with notices := [] } : State) = { s with notices := [] } := by
      obtain ⟨q, rfl⟩ := h
      rfl
    have stopped : (s.stopUnit count x).Alike (({ s with notices := [] } : State).stopUnit count x) :=
      stopUnit ⟨[], rfl⟩ x
    obtain ⟨alike, same⟩ := ih (stopped.trans ⟨t.notices, rfl⟩)
    have ⟨_, same'⟩ := ih (stopped.trans ⟨s.notices, rfl⟩)
    simp only [State.gatherStops, bare, List.foldl_cons]
    exact ⟨alike, congrArg (_ :: ·) (same.trans same'.symm)⟩

end State.Alike


end Sys2Proof.Machine
end

section
/-! The opening of the e-stop chain (O32). -/

namespace Sys2Proof.Machine

variable {s v : State} {count i : Option Nat} {d : Dest} {b : BayId}

/-! ## Each unit's record -/

theorem State.stopTransfer_of_running {t : Transfer} (record : s.record d = some t) (running : t.state = .running) :
    s.stopTransfer d = ((s.setRecord d (some { t with state := .halted, retried := false })).hold t.order d .estop true
      none).notify (.stationFault t.order d .estop none 0 .none) := by
  rw [State.stopTransfer, record]
  exact if_pos running

theorem State.stopTransfer_of_still {t : Transfer} (record : s.record d = some t) (still : t.state ≠ .running) :
    s.stopTransfer d = s := by
  rw [State.stopTransfer, record]
  exact if_neg still

theorem State.modBay_congr {f g : Bay → Bay} (same : f (s.bay b) = g (s.bay b)) : s.modBay b f = s.modBay b g := by
  cases b
  · exact congrArg (fun y => ({ s with bayOne := y } : State)) same
  · exact congrArg (fun y => ({ s with bayTwo := y } : State)) same

theorem State.stopBay_of_working {t : TinRef} {f : Bay → Bay} (tin : (s.bay b).tin = some t)
    (working : (s.bay b).state.atRest = false) (halted : (s.bay b).halted = f (s.bay b)) :
    s.stopBay b = ((s.modBay b f).hold t.order (.bay b) .estop false none).notify
      (.stationFault t.order (.bay b) .estop none 0 .none) := by
  have order : (s.bay b).tinOrder = t.order := by rw [Bay.tinOrder, tin]
  rw [State.stopBay, if_neg (by simp [working]), order, State.modBay_congr halted]
  rfl

theorem State.stopLidder_of_working {t : LidderTin} {r : LidResume} (tin : s.lidder.tin = some t)
    (point : s.lidder.state.haltPoint = some r) :
    s.stopLidder = ((s.modLidder fun l => { l with state := .halted, resume := some r }).hold t.order .lidder .estop
      false none).notify (.stationFault t.order .lidder .estop none 0 .none) := by
  have order : s.lidder.tinOrder = t.order := by rw [Lidder.tinOrder, tin]
  have halted : s.modLidder Lidder.halted = s.modLidder fun l => { l with state := .halted, resume := some r } := by
    rw [State.modLidder, Lidder.halted, point]
    rfl
  rw [State.stopLidder, if_pos (by simp [point]), order, halted]
  rfl

/-- Where the station is when the chain opens, with what stands of its work and its resume point (R92). -/
def State.StopsAt (s u : State) (count i : Option Nat) (r : ResumePoint) : Prop :=
  (s.station.state, r) ∈ [(StationState.planning, ResumePoint.next), (.moving, .homing),
      (.waitCanister, .strokeCheck), (.awaitManual, .manualStep)] ∧ u = s ∧ i = s.curIndex ∨
    s.station.state = .taring ∧ u = s.abandonSettle ∧ i = none ∧ r = .tare ∨
    s.station.state ∈ [StationState.settling, .verifying] ∧ s.station.settleFor = .phaseStart ∧
      u = s.abandonSettle ∧ i = s.curIndex ∧ r = .startReading ∨
    (∃ c e, s.current? = some (c, e) ∧ i = some c.index ∧
      (s.station.state = .stroking ∧ u = (s.endStroke count).setEntry c.index .partialShot ∧ r = .serve ∨
        s.station.state ∈ [StationState.settling, .verifying] ∧ s.station.settleFor ≠ .phaseStart ∧
          u = (if c.phase = .manual then s.abandonSettle else s.abandonSettle.setEntry c.index .partialShot) ∧
          r = .verdict))

theorem State.curIndex_of_current {c : CurrentEntry} {e : Entry} (current : s.current? = some (c, e)) :
    s.curIndex = some c.index := by
  rw [State.curIndex, State.cur_of_current current, Option.map_some]

/-- The station stops at its resume point (R92). -/
theorem State.stopStation_of_stopsAt {u : State} {r : ResumePoint} (stops : s.StopsAt u count i r) :
    s.stopStation count = u.haltStation i r ∧ u.served = s.served := by
  rcases stops with ⟨place, rfl, rfl⟩ | ⟨taring, rfl, rfl, rfl⟩ | ⟨settling, start, rfl, rfl, rfl⟩ |
    ⟨c, e, current, rfl, ⟨stroking, rfl, rfl⟩ | ⟨settling, verdict, rfl, rfl⟩⟩
  · simp only [List.mem_cons, Prod.mk.injEq, List.not_mem_nil, or_false] at place
    rcases place with ⟨state, rfl⟩ | ⟨state, rfl⟩ | ⟨state, rfl⟩ | ⟨state, rfl⟩
    all_goals exact ⟨by simp only [State.stopStation, state], rfl⟩
  · exact ⟨by simp only [State.stopStation, taring], rfl⟩
  · simp only [List.mem_cons, List.not_mem_nil, or_false] at settling
    have purpose : s.abandonSettle.station.settleFor = .phaseStart := start
    rcases settling with state | state
    all_goals
      refine ⟨?_, rfl⟩
      simp only [State.stopStation, state, purpose, if_true]
      rfl
  · refine ⟨?_, State.endStroke_served s count⟩
    have index : (s.endStroke count).curIndex = some c.index :=
      (State.endStroke_curIndex s count).trans (State.curIndex_of_current current)
    simp only [State.stopStation, stroking, index]
  · simp only [List.mem_cons, List.not_mem_nil, or_false] at settling
    have purpose : s.abandonSettle.station.settleFor ≠ .phaseStart := verdict
    have cur : s.abandonSettle.station.cur = some c := State.cur_of_current current
    rcases settling with state | state
    all_goals
      refine ⟨?_, by split <;> rfl⟩
      simp only [State.stopStation, state, purpose, if_false, cur]

theorem State.stopStation_of_rest (rest : s.station.state ∈ [StationState.idle, .receiving, .pausedHold, .faultHeld,
    .complete, .sending, .awaitRemakeTin, .clearing, .halted]) : s.stopStation count = s := by
  cases state : s.station.state
  case taring | planning | moving | stroking | settling | verifying | waitCanister | awaitManual =>
    simp [state] at rest
  all_goals simp only [State.stopStation, state]

/-! ## All of them -/

/-- The state with every unit stopped, its notices appended as they come. -/
def State.stopAll (s : State) (count : Option Nat) : State := stopUnits.foldl (State.stopUnit count) s

theorem State.stopTransfer_station (d : Dest) : (s.stopTransfer d).station = s.station := by
  rw [State.stopTransfer_eq]

theorem State.stopTransfer_canisters (d : Dest) : (s.stopTransfer d).canisters = s.canisters := by
  rw [State.stopTransfer_eq]

theorem State.stopBay_station (b : BayId) : (s.stopBay b).station = s.station := by rw [State.stopBay_eq]

theorem State.stopBay_canisters (b : BayId) : (s.stopBay b).canisters = s.canisters := by rw [State.stopBay_eq]

theorem State.stopBay_conveyor (b : BayId) : (s.stopBay b).conveyor = s.conveyor := by rw [State.stopBay_eq]

theorem State.stopUnit_eq (s : State) (count : Option Nat) (x : StopUnit) :
    s.stopUnit count x = { s with
      book := (s.stopUnit count x).book, notices := (s.stopUnit count x).notices
      canisters := (s.stopUnit count x).canisters, station := (s.stopUnit count x).station
      weigh := (s.stopUnit count x).weigh, conveyor := (s.stopUnit count x).conveyor
      bayOne := (s.stopUnit count x).bayOne, bayTwo := (s.stopUnit count x).bayTwo
      lidder := (s.stopUnit count x).lidder } := by
  cases x with
  | station => exact (State.stopStation_eq s count).trans (by rw [State.stopUnit, State.stopStation_eq])
  | transfer d => exact (State.stopTransfer_eq s d).trans (by rw [State.stopUnit, State.stopTransfer_eq])
  | bay b => exact (State.stopBay_eq s b).trans (by rw [State.stopUnit, State.stopBay_eq])
  | lidder => exact (State.stopLidder_eq s).trans (by rw [State.stopUnit, State.stopLidder_eq])

/-- What the stops leave: the link, the intake, the lanes, the tables, the line mode unit, the carousel and the
supply. -/
theorem State.foldl_stopUnit_eq (units : List StopUnit) (s : State) (count : Option Nat) :
    ∃ b n c st w cv y z l, units.foldl (State.stopUnit count) s = { s with
      book := b, notices := n, canisters := c, station := st, weigh := w, conveyor := cv, bayOne := y, bayTwo := z
      lidder := l } := by
  induction units generalizing s with
  | nil => exact ⟨_, _, _, _, _, _, _, _, _, rfl⟩
  | cons x rest ih =>
    obtain ⟨b, n, c, st, w, cv, y, z, l, stopped⟩ := ih (s.stopUnit count x)
    exact ⟨b, n, c, st, w, cv, y, z, l, by rw [List.foldl_cons, stopped, State.stopUnit_eq]⟩

/-- The fields of the state that no unit's stop touches. -/
theorem State.stopAll_kept (s : State) (count : Option Nat) :
    (s.stopAll count).line = s.line ∧ (s.stopAll count).positioner = s.positioner ∧
      (s.stopAll count).intake = s.intake ∧ (s.stopAll count).lanes = s.lanes ∧
      (s.stopAll count).classes = s.classes ∧ (s.stopAll count).settings = s.settings ∧
      (s.stopAll count).supply = s.supply ∧ (s.stopAll count).link = s.link := by
  obtain ⟨b, n, c, st, w, cv, y, z, l, kept⟩ := State.foldl_stopUnit_eq stopUnits s count
  rw [State.stopAll, kept]
  exact ⟨rfl, rfl, rfl, rfl, rfl, rfl, rfl, rfl⟩

/-- Every transfer's stop, one after another. -/
theorem State.stopTransfers_atRest (ds : List Dest) (s : State) (e : Dest)
    (stops : e ∈ ds ∨ recordAtRest (s.record e) = true) :
    recordAtRest ((ds.foldl State.stopTransfer s).record e) = true := by
  have halted (r : Option Transfer) : recordAtRest (r.map Transfer.halted) = true := by
    cases r with
    | none => rfl
    | some t =>
      rw [Option.map_some, Transfer.halted]
      split
      · rfl
      · next still => simpa [recordAtRest] using still
  induction ds generalizing s with
  | nil => simpa using stops
  | cons d rest ih =>
    refine ih (s.stopTransfer d) ?_
    rw [State.stopTransfer_record]
    by_cases same : e = d
    · rw [if_pos same]
      exact .inr (halted _)
    · rw [if_neg same]
      exact stops.imp_left fun mem => (List.mem_cons.1 mem).resolve_left same

theorem Conveyor.atRest_of_records {c : Conveyor} (rest : ∀ d, recordAtRest (c.record d) = true) : c.atRest = true := by
  have toDispense := rest .dispense
  have toBayOne := rest (.bay .one)
  have toBayTwo := rest (.bay .two)
  have toLidder := rest .lidder
  have toOutlet := rest .outlet
  simp only [Conveyor.record] at toDispense toBayOne toBayTwo toLidder toOutlet
  simp [Conveyor.atRest, toDispense, toBayOne, toBayTwo, toLidder, toOutlet]

/-- The destinations whose transfers stop. -/
def stopDests : List Dest := [.dispense, .bay .one, .bay .two, .lidder, .outlet]

theorem mem_stopDests (d : Dest) : d ∈ stopDests := by
  cases d with
  | bay b => cases b <;> simp [stopDests]
  | _ => simp [stopDests]

theorem State.stopAll_eq (s : State) (count : Option Nat) :
    s.stopAll count =
      (((stopDests.foldl State.stopTransfer (s.stopStation count)).stopBay .one).stopBay .two).stopLidder := rfl

theorem State.stopAll_station (s : State) (count : Option Nat) :
    (s.stopAll count).station = (s.stopStation count).station := by
  rw [State.stopAll_eq, State.stopLidder_eq]
  simp only [stopDests, List.foldl_cons, List.foldl_nil, State.stopBay_station, State.stopTransfer_station]

theorem State.stopAll_canisters (s : State) (count : Option Nat) :
    (s.stopAll count).canisters = (s.stopStation count).canisters := by
  rw [State.stopAll_eq, State.stopLidder_eq]
  simp only [stopDests, List.foldl_cons, List.foldl_nil, State.stopBay_canisters, State.stopTransfer_canisters]

theorem State.stopAll_conveyor_atRest (s : State) (count : Option Nat) : (s.stopAll count).conveyor.atRest = true := by
  rw [State.stopAll_eq, State.stopLidder_eq]
  simp only [State.stopBay_conveyor]
  exact Conveyor.atRest_of_records fun d => State.stopTransfers_atRest stopDests _ d (.inl (mem_stopDests d))

theorem State.stopAll_bays_atRest (s : State) (count : Option Nat) :
    (s.stopAll count).bayOne.state.atRest = true ∧ (s.stopAll count).bayTwo.state.atRest = true := by
  rw [State.stopAll_eq, State.stopLidder_eq]
  exact ⟨State.stopBay_atRest _ .two .one (.inr (State.stopBay_atRest _ .one .one (.inl rfl))),
    State.stopBay_atRest _ .two .two (.inl rfl)⟩

theorem State.stopAll_lidder (s : State) (count : Option Nat) : (s.stopAll count).lidder = s.lidder.halted := by
  have transfers (ds : List Dest) (t : State) : (ds.foldl State.stopTransfer t).lidder = t.lidder := by
    induction ds generalizing t with
    | nil => rfl
    | cons d rest ih => rw [List.foldl_cons, ih, State.stopTransfer_eq]
  rw [State.stopAll_eq, State.stopLidder_eq]
  dsimp only
  rw [State.stopBay_eq, State.stopBay_eq]
  dsimp only
  rw [transfers, State.stopStation_eq]

/-! ## The opening -/

theorem State.gatherStops_notices (s : State) (count : Option Nat) (units : List StopUnit) :
    (s.gatherStops count units).1.notices = s.notices := by
  induction units generalizing s with
  | nil => rfl
  | cons x rest ih => exact ih _

/-- The state an opening hands to the blocks it stops (R148). -/
def State.chainOpened (s : State) (travelled : Nat) : State :=
  { s with
    line := { mode := .stopped, pendingMode := none, latch := true, chainOpen := true }
    positioner := s.positioner.stopped travelled }

theorem State.openChain_of_stopped (travelled : Nat) (stopped : s.line.mode = .stopped) :
    s.openChain count travelled = { s with line := { s.line with chainOpen := true, latch := true } } :=
  if_pos stopped

/-- An opening in any other mode: the blocks stop as one after another they would, but for the order of their
notices (R148, log 9). -/
theorem State.openChain_of_going (travelled : Nat) (going : s.line.mode ≠ .stopped) :
    ∃ own : List NoticeBody,
      own.Perm ((s.chainOpened travelled).gatherStops count stopUnits).2.flatten ∧
      (∀ l ∈ ((s.chainOpened travelled).gatherStops count stopUnits).2, l.Sublist own) ∧
      (s.openChain count travelled).notices = own.foldl queueNotice
        (queueNotice (queueNotice s.notices (.estop s.line.mode)) (.lineMode .stopped none)) ∧
      s.openChain count travelled = { (s.chainOpened travelled).stopAll count with
        notices := (s.openChain count travelled).notices
        freeCount := (s.openChain count travelled).freeCount } := by
  let told : State := { s.chainOpened travelled with
    notices := queueNotice (queueNotice s.notices (.estop s.line.mode)) (.lineMode .stopped none) }
  have opened : s.openChain count travelled = (told.gatherStops count stopUnits).1.appendAnyOrder
      (told.gatherStops count stopUnits).2.flatten.length (told.gatherStops count stopUnits).2 := if_neg going
  obtain ⟨⟨q, alike⟩, same⟩ :=
    State.Alike.gatherStops (s := s.chainOpened travelled) (t := told) (count := count) ⟨_, rfl⟩ stopUnits
  obtain ⟨own, perm, sublists, appended⟩ := State.appendAnyOrder_eq _ (told.gatherStops count stopUnits).1
    (told.gatherStops count stopUnits).2 le_rfl
  rw [← opened] at appended
  refine ⟨own, same ▸ perm, same ▸ sublists, ?_, ?_⟩
  · rw [appended]
    exact congrArg (own.foldl queueNotice) (State.gatherStops_notices told count stopUnits)
  · rw [appended, alike]
    rfl

theorem State.startsAllowed_of_stopped (stopped : s.line.mode = .stopped) : s.startsAllowed = false := by
  simp [State.startsAllowed, State.heldRunning, stopped]

/-- Settles O32: each unit's stop, and the opening that gathers them. -/
theorem chainOpeningStopsTheLine : Obligations.ChainOpeningStopsTheLine := by
  refine ⟨⟨fun s u count i r stops => ?station, fun s count => ⟨fun rest => State.stopStation_of_rest rest,
    fun d t record => ⟨State.stopTransfer_of_running record, State.stopTransfer_of_still record⟩,
    fun b t tin => ⟨fun clamp => ?clamp, fun spin => ?spin⟩, fun b rest => ?bay, fun t r tin point => ?lidder,
    fun rest => ?lidderRest⟩⟩, fun s count travelled working => ⟨fun stopped => ?stopped, fun going => ?going, ?close⟩⟩
  case station =>
    obtain ⟨halted, serves⟩ := State.stopStation_of_stopsAt stops
    exact halted.trans (State.haltStation_of_served serves i r)
  case clamp =>
    refine State.stopBay_of_working tin ?_ ?_
    all_goals
      simp only [List.mem_cons, List.not_mem_nil, or_false] at clamp
      rcases clamp with state | state <;> simp [state, BayState.atRest, Bay.halted]
  case spin =>
    refine State.stopBay_of_working tin ?_ ?_
    all_goals
      simp only [List.mem_cons, List.not_mem_nil, or_false] at spin
      rcases spin with state | state <;> simp [state, BayState.atRest, Bay.halted]
  case bay =>
    have still : (s.bay b).state.atRest = true := by
      simp only [List.mem_cons, List.not_mem_nil, or_false] at rest
      rcases rest with state | state | state | state | state | state <;> simp [state, BayState.atRest]
    exact if_pos still
  case lidder =>
    refine State.stopLidder_of_working tin ?_
    simp only [List.mem_cons, Prod.mk.injEq, List.not_mem_nil, or_false] at point
    rcases point with ⟨state, rfl⟩ | ⟨state, rfl⟩ | ⟨state, rfl⟩ <;> simp [state, LidderState.haltPoint]
  case lidderRest =>
    have still : s.lidder.state.haltPoint = none := by
      cases state : s.lidder.state <;> simp [state] at rest <;> rfl
    exact if_neg (by simp [still])
  case stopped =>
    refine (State.command_of_working working _).trans ?_
    rw [State.openChain_of_stopped travelled stopped]
  case close =>
    change execEstopChainClose s = _
    rw [execEstopChainClose, State.command_of_working working]
  case going =>
    obtain ⟨own, perm, sublists, notices, frame⟩ := State.openChain_of_going (count := count) travelled going
    have ⟨line, positioner, intake, lanes, classes, settings, supply, link⟩ :=
      State.stopAll_kept (s.chainOpened travelled) count
    have ⟨bayOne, bayTwo⟩ := State.stopAll_bays_atRest (s.chainOpened travelled) count
    have lidder := State.stopAll_lidder (s.chainOpened travelled) count
    refine ⟨s.openChain count travelled, s.chainOpened travelled, (s.chainOpened travelled).stopAll count, stopUnits,
      own, State.command_of_working working _, rfl, rfl, rfl, frame, notices, perm, sublists,
      (congrArg State.line frame).trans line, ?_⟩
    generalize s.openChain count travelled = t at frame
    rw [frame]
    refine ⟨positioner, ?state, State.stopAll_conveyor_atRest .., bayOne, bayTwo, ?lidderState,
      State.startsAllowed_of_stopped (congrArg LineUnit.mode line), intake, lanes, classes, settings, supply, link,
      ?magazines, fun other => ?canisters⟩
    case state =>
      rw [State.stopAll_station]
      exact State.stopStation_state _ count
    case lidderState =>
      rw [lidder]
      exact Lidder.halted_atRest _
    case magazines =>
      rw [lidder]
      exact Lidder.halted_magazines _
    case canisters =>
      rw [State.stopAll_canisters]
      exact State.stopStation_canisters other

end Sys2Proof.Machine
end

section
/-! Binding (O33): which order it takes, and what it writes. -/

namespace Sys2Proof.Machine

variable {s : State} {cls : TinClass} {rush b : Bool} {n : Nat} {o : Order}

/-! ## The first QUEUED order (R12) -/

/-- The earlier admitted of the best so far and the next order. -/
def Order.earlier (best : Option Order) (o : Order) : Option Order :=
  match best with
  | none => some o
  | some a => if o.admission < a.admission then some o else some a

/-- The QUEUED orders of a class and rush flag. -/
def Book.queued (b : Book) (cls : TinClass) (rush : Bool) : List Order :=
  b.orders.filter fun o => o.state == .queued && o.cls == cls && o.rush == rush

theorem Book.firstQueued_eq (b : Book) : b.firstQueued cls rush = (b.queued cls rush).foldl Order.earlier none := rfl

theorem Book.mem_queued {b : Book} :
    o ∈ b.queued cls rush ↔ o ∈ b.orders ∧ o.state = .queued ∧ o.cls = cls ∧ o.rush = rush := by
  simp [Book.queued, and_assoc]

/-- The earliest of a first order and some others. -/
theorem Order.foldl_earlier_some (l : List Order) (a : Order) :
    ∃ o, l.foldl Order.earlier (some a) = some o ∧ o ∈ a :: l ∧ ∀ q ∈ a :: l, o.admission ≤ q.admission := by
  induction l generalizing a with
  | nil => exact ⟨a, rfl, List.mem_cons_self .., by simp⟩
  | cons x rest ih =>
    rw [List.foldl_cons, Order.earlier]
    by_cases before : x.admission < a.admission
    · obtain ⟨o, best, mem, least⟩ := ih x
      rw [if_pos before]
      refine ⟨o, best, List.mem_cons_of_mem _ mem, List.forall_mem_cons.2 ⟨?_, least⟩⟩
      exact (least x (List.mem_cons_self ..)).trans before.le
    · obtain ⟨o, best, mem, least⟩ := ih a
      obtain ⟨first, rest_least⟩ := List.forall_mem_cons.1 least
      rw [if_neg before]
      refine ⟨o, best, ?_, List.forall_mem_cons.2 ⟨first, List.forall_mem_cons.2 ⟨?_, rest_least⟩⟩⟩
      · exact (List.mem_cons.1 mem).elim (fun same => same ▸ List.mem_cons_self ..) fun later =>
          List.mem_cons_of_mem _ (List.mem_cons_of_mem _ later)
      · exact first.trans (Nat.not_lt.1 before)

theorem Book.firstQueued_eq_none {b : Book} (none_found : b.firstQueued cls rush = none) : b.queued cls rush = [] := by
  rw [Book.firstQueued_eq] at none_found
  cases listed : b.queued cls rush with
  | nil => rfl
  | cons a rest =>
    obtain ⟨o, best, -⟩ := Order.foldl_earlier_some rest a
    rw [listed, List.foldl_cons, Order.earlier, best] at none_found
    cases none_found

theorem Book.firstQueued_eq_some {b : Book} (found : b.firstQueued cls rush = some o) :
    o ∈ b.queued cls rush ∧ ∀ q ∈ b.queued cls rush, o.admission ≤ q.admission := by
  rw [Book.firstQueued_eq] at found
  cases listed : b.queued cls rush with
  | nil => simp [listed] at found
  | cons a rest =>
    obtain ⟨o', best, mem, least⟩ := Order.foldl_earlier_some rest a
    rw [listed, List.foldl_cons, Order.earlier, best] at found
    cases found
    exact ⟨mem, least⟩

/-! ## The order binding takes -/

theorem State.slotOrder_eq_some : s.slotOrder cls = some o ↔
    (∃ n, s.book.slot = some n ∧ s.order? n = some o) ∧ o.cls = cls ∧ o.tin = none := by
  unfold State.slotOrder
  cases live : s.book.slot.bind s.order? with
  | none =>
    simp only [reduceCtorEq, false_iff, not_and]
    rintro ⟨n, slot, found⟩
    simp [slot, found] at live
  | some q =>
    have there : (∃ n, s.book.slot = some n ∧ s.order? n = some o) ↔ q = o := by
      obtain ⟨n, slot, found⟩ := Option.bind_eq_some_iff.1 live
      simp [slot, found]
    rw [there]
    by_cases fits : q.cls = cls ∧ q.tin = none
    · simp only [fits, and_self, if_true, Option.some.injEq]
      exact ⟨fun same => ⟨same, same ▸ fits⟩, fun same => same.1⟩
    · simp only [fits, if_false, reduceCtorEq, false_iff]
      rintro ⟨rfl, fits'⟩
      exact fits fits'

/-- What binding takes: the slot's order, else the first rush order, else the first ordinary one (R12). -/
theorem State.bindable_cases (s : State) (cls : TinClass) :
    (∃ o, s.slotOrder cls = some o ∧ s.bindable cls = some (o, true)) ∨
    (s.slotOrder cls = none ∧ ∃ o, s.book.firstQueued cls true = some o ∧ s.bindable cls = some (o, false)) ∨
    (s.slotOrder cls = none ∧ s.book.firstQueued cls true = none ∧
      s.bindable cls = (s.book.firstQueued cls false).map fun o => (o, false)) := by
  unfold State.bindable
  cases s.slotOrder cls with
  | some o => exact .inl ⟨o, rfl, rfl⟩
  | none =>
    cases s.book.firstQueued cls true with
    | some o => exact .inr (.inl ⟨rfl, o, rfl, rfl⟩)
    | none => exact .inr (.inr ⟨rfl, rfl, rfl⟩)

theorem Book.rush_of_none {b : Book} (no_rush : b.firstQueued cls true = none) {q : Order} (mem : q ∈ b.orders)
    (queued : q.state = .queued) (of_class : q.cls = cls) : q.rush = false := by
  by_contra rush
  have listed : q ∈ b.queued cls true := Book.mem_queued.2 ⟨mem, queued, of_class, by simpa using rush⟩
  simp [Book.firstQueued_eq_none no_rush] at listed

theorem State.bindable_sound (found : s.bindable cls = some (o, b)) : o.cls = cls ∧
    (b = true → ∃ n, s.book.slot = some n ∧ s.order? n = some o ∧ o.tin = none) ∧
    (b = false → o ∈ s.book.orders ∧ o.state = .queued ∧
      (∀ q ∈ s.book.orders, q.state = .queued → q.cls = cls → q.rush = o.rush → o.admission ≤ q.admission) ∧
      (o.rush = false → ∀ q ∈ s.book.orders, q.state = .queued → q.cls = cls → q.rush = false)) := by
  have first {rush} (best : s.book.firstQueued cls rush = some o) : o.cls = cls ∧ o ∈ s.book.orders ∧
      o.state = .queued ∧ o.rush = rush ∧
      ∀ q ∈ s.book.orders, q.state = .queued → q.cls = cls → q.rush = o.rush → o.admission ≤ q.admission := by
    obtain ⟨listed, least⟩ := Book.firstQueued_eq_some best
    obtain ⟨mem, queued, of_class, same⟩ := Book.mem_queued.1 listed
    exact ⟨of_class, mem, queued, same, fun q hq queued of_class rush =>
      least q (Book.mem_queued.2 ⟨hq, queued, of_class, rush.trans same⟩)⟩
  rcases s.bindable_cases cls with ⟨q, slot, bound⟩ | ⟨-, q, best, bound⟩ | ⟨-, no_rush, bound⟩
  · rw [bound] at found
    cases found
    obtain ⟨⟨n, held, live⟩, of_class, untracked⟩ := State.slotOrder_eq_some.1 slot
    exact ⟨of_class, fun _ => ⟨n, held, live, untracked⟩, nofun⟩
  · rw [bound] at found
    cases found
    obtain ⟨of_class, mem, queued, rush, least⟩ := first best
    exact ⟨of_class, nofun, fun _ => ⟨mem, queued, least, fun ordinary => by simp [rush] at ordinary⟩⟩
  · rw [bound] at found
    obtain ⟨q, best, same⟩ := Option.map_eq_some_iff.1 found
    cases same
    obtain ⟨of_class, mem, queued, -, least⟩ := first best
    exact ⟨of_class, nofun, fun _ => ⟨mem, queued, least, fun _ q hq => Book.rush_of_none no_rush hq⟩⟩

theorem State.bindable_none (none_found : s.bindable cls = none) :
    ∀ q ∈ s.book.orders, q.state = .queued → q.cls ≠ cls := by
  rcases s.bindable_cases cls with ⟨q, -, bound⟩ | ⟨-, q, -, bound⟩ | ⟨-, no_rush, bound⟩
  · simp [none_found] at bound
  · simp [none_found] at bound
  · intro q mem queued of_class
    have no_ordinary := Option.map_eq_none_iff.1 (bound.symm.trans none_found)
    have listed : q ∈ s.book.queued cls false :=
      Book.mem_queued.2 ⟨mem, queued, of_class, Book.rush_of_none no_rush mem queued of_class⟩
    simp [Book.firstQueued_eq_none no_ordinary] at listed

/-! ## The tin id (R12) -/

/-- The ids tried for a new tin, each one of the 255. -/
def Book.tinIds (b : Book) : List Nat := (List.range 255).map fun k => (b.lastTin + k) % 255 + 1

theorem Book.tinIds_nodup (b : Book) : b.tinIds.Nodup := by
  refine List.nodup_range.map_on fun j hj k hk same => ?_
  rw [List.mem_range] at hj hk
  omega

/-- While fewer than 255 orders live, the next tin id is one that no live order holds. -/
theorem Book.nextTin_free {b : Book} (few : b.orders.length < 255) : ∀ q ∈ b.orders, q.tin ≠ some b.nextTin := by
  have free : ∃ id, b.tinIds.find? (fun id => !b.holdsTin id) = some id := by
    by_contra none_free
    have all_held : ∀ id ∈ b.tinIds, b.holdsTin id = true := by
      have missing := List.find?_eq_none.1 (Option.eq_none_iff_forall_ne_some.2 fun id found => none_free ⟨id, found⟩)
      simpa using missing
    have held : b.tinIds ⊆ b.orders.filterMap Order.tin := by
      intro id mem
      obtain ⟨q, live, tin⟩ := List.any_eq_true.1 (all_held id mem)
      exact List.mem_filterMap.2 ⟨q, live, by simpa using tin⟩
    have counted := (b.tinIds_nodup.subperm held).length_le
    have bound := List.length_filterMap_le Order.tin b.orders
    simp only [Book.tinIds, List.length_map, List.length_range] at counted
    omega
  obtain ⟨id, found⟩ := free
  have next : b.nextTin = id := by
    have found' : ((List.range 255).map fun k => (b.lastTin + k) % 255 + 1).find? (fun id => !b.holdsTin id) =
        some id := found
    simp only [Book.nextTin, found', Option.getD_some]
  intro q live tin
  have unheld := List.find?_some found
  rw [← next] at unheld
  have held : b.holdsTin b.nextTin = true := List.any_eq_true.2 ⟨q, live, by simp [tin]⟩
  simp [held] at unheld

/-! ## What binding writes -/

/-- The state with its tin id, its origin and the slot written, before the order is BOUND. -/
def State.assigned (s : State) (n : Nat) (fromSlot : Bool) : State :=
  let t := (s.assignTin n).modOrder n fun o => { o with fromSlot := fromSlot }
  if fromSlot then t.setSlot none else t

theorem State.bindOrder_eq (s : State) (n : Nat) (fromSlot : Bool) :
    s.bindOrder n fromSlot = (((s.assigned n fromSlot).changeOrder n .bound).modIntake fun i =>
      { i with state := .bound, bound := some n }).setIntakeRequest true := rfl

theorem State.order?_setSlot (slot : Option Nat) (m : Nat) : (s.setSlot slot).order? m = s.order? m := rfl

theorem State.order?_assigned (live : s.order? n = some o) (fromSlot : Bool) :
    (s.assigned n fromSlot).order? n = some { o with tin := some s.book.nextTin, fromSlot := fromSlot } := by
  have tin : (s.assignTin n).order? n = some { o with tin := some s.book.nextTin } :=
    State.order?_modOrder_self (f := fun o => { o with tin := some s.book.nextTin }) live (by intro; rfl)
  have origin := State.order?_modOrder_self (f := fun o => { o with fromSlot := fromSlot }) tin (by intro; rfl)
  cases fromSlot <;> exact origin

theorem State.order?_assigned_of_ne {m : Nat} (other : m ≠ n) (fromSlot : Bool) :
    (s.assigned n fromSlot).order? m = s.order? m := by
  have tin : (s.assignTin n).order? m = s.order? m :=
    State.order?_modOrder_of_ne (f := fun o => { o with tin := some s.book.nextTin }) (by intro; rfl) other
  have origin := (State.order?_modOrder_of_ne (s := s.assignTin n) (f := fun o => { o with fromSlot := fromSlot })
    (by intro; rfl) other).trans tin
  cases fromSlot <;> exact origin

theorem State.assigned_book (n : Nat) (fromSlot : Bool) : (s.assigned n fromSlot).book.lastTin = s.book.nextTin ∧
    (s.assigned n fromSlot).book.slot = if fromSlot then none else s.book.slot := by
  cases fromSlot <;> exact ⟨rfl, rfl⟩

theorem State.assigned_eq (s : State) (n : Nat) (fromSlot : Bool) :
    s.assigned n fromSlot = { s with book := (s.assigned n fromSlot).book } := by
  cases fromSlot <;> rfl

/-- Binding, as the change of the order's state to BOUND and the writes around it (R12). -/
theorem State.bindOrder_of_live (live : s.order? n = some o) (unbound : o.state ≠ .bound) (fromSlot : Bool) :
    s.bindOrder n fromSlot = { ((s.assigned n fromSlot).modOrder n fun o => { o with state := .bound }) with
      notices := queueNotice s.notices (.orderState n .bound s.book.nextTin o.pendingEnd)
      intake := { s.intake with state := .bound, bound := some n }
      conveyor := { s.conveyor with intakeRequest := true } } := by
  rw [State.bindOrder_eq, State.changeOrder_of_ne (State.order?_assigned live fromSlot) (by exact unbound),
    State.assigned_eq]
  rfl

/-- Settles O33: the order taken by its class, flag and admission, and the record written for it. -/
theorem bindingTakesAndBindsTheFirstMatchingOrder : Obligations.BindingTakesAndBindsTheFirstMatchingOrder := by
  refine ⟨fun s cls => ⟨fun n o slot live of_class untracked => ?slot, fun o b => State.bindable_sound,
    State.bindable_none⟩, fun s n o fromSlot live unbound few => ?writes⟩
  case slot =>
    have held := State.slotOrder_eq_some.2 ⟨⟨n, slot, live⟩, of_class, untracked⟩
    rw [State.bindable, held]
  case writes =>
    obtain ⟨low, high⟩ := s.book.nextTin_range
    have bound := State.bindOrder_of_live live unbound fromSlot
    obtain ⟨lastTin, slot⟩ := State.assigned_book (s := s) n fromSlot
    refine ⟨s.book.nextTin, low, high, Book.nextTin_free (by omega), ?frame, ?record, fun m other => ?others, ?lastTin,
      ?slot⟩
    all_goals rw [bound]
    case frame => rw [State.assigned_eq]; rfl
    case record =>
      exact State.order?_modOrder_self (f := fun o => { o with state := .bound }) (State.order?_assigned live fromSlot)
        (by intro; rfl)
    case others =>
      exact (State.order?_modOrder_of_ne (f := fun o => { o with state := .bound }) (by intro; rfl) other).trans
        (State.order?_assigned_of_ne other fromSlot)
    case lastTin => exact lastTin
    case slot => exact slot

end Sys2Proof.Machine
end
section
/-! The intake (O34), and the bay chosen (O38). -/

namespace Sys2Proof.Machine

variable {s : State} {cls : TinClass} {b : Bool} {n : Nat} {o : Order}

/-! ## A tin placed -/

/-- The intake with an unlidded tin newly on it. -/
def State.tinOn (s : State) (cls : TinClass) : State :=
  s.modIntake fun i => { i with present := true, cls := cls, lidded := false }

theorem State.placeTin_of_unbound (unbound : s.intake.state ≠ .bound) :
    s.placeTin cls false = (s.tinOn cls).takeTin := by
  simp only [State.placeTin, unbound, if_false, State.tinOn]
  rfl

theorem State.placeTin_of_lidded (unbound : s.intake.state ≠ .bound) : s.placeTin cls true = { s with
    intake := { state := .refused, cls := cls, lidded := true, reason := .lidded, bound := none, present := true }
    notices := queueNotice s.notices (.liddedTin .intake) } := by
  simp only [State.placeTin, unbound, if_false]
  rfl

/-! ## Binding retried -/

theorem State.attemptBinding_of_bindable (found : s.bindable s.intake.cls = some (o, b)) :
    s.attemptBinding = s.bindOrder o.number b := by
  rw [State.attemptBinding, found]

theorem State.attemptBinding_of_none (missing : s.bindable s.intake.cls = none) : s.attemptBinding = { s with
    intake := { s.intake with state := .refused, reason := .noOrderForTin, bound := none }
    notices := queueNotice s.notices (.noOrderForTin .intake s.intake.cls) } := by
  rw [State.attemptBinding, missing]
  rfl

theorem State.retryBinding_of_none (missing : s.bindable s.intake.cls = none) : s.retryBinding = s := by
  rw [State.retryBinding, missing]
  exact ite_self _

theorem State.bindRetry_of_waiting (waiting : s.intake.state = .waiting) (allowed : s.startsAllowed = true) :
    s.bindRetry = s.attemptBinding := if_pos ⟨waiting, allowed⟩

theorem State.bindRetry_of_refused (refused : s.intake.state = .refused) : s.bindRetry = s.retryBinding :=
  if_neg fun ⟨waiting, _⟩ => by simp [refused] at waiting

theorem State.bindRetry_of_bindable (allowed : s.startsAllowed = true)
    (waits : s.intake.state = .waiting ∨ s.intake.state = .refused ∧ s.intake.reason = .noOrderForTin)
    (found : s.bindable s.intake.cls = some (o, b)) : s.bindRetry = s.bindOrder o.number b := by
  rcases waits with waiting | ⟨refused, reason⟩
  · rw [State.bindRetry_of_waiting waiting allowed, State.attemptBinding_of_bindable found]
  · rw [State.bindRetry_of_refused refused, State.retryBinding, if_pos ⟨refused, reason, allowed⟩, found]

/-! ## A tin lifted -/

theorem State.liftIntake_of_unbound (unbound : s.intake.state ≠ .bound) :
    s.liftIntake = s.modIntake fun i => { i with state := .empty, bound := none } := by
  unfold State.liftIntake
  split
  · next bound _ => exact absurd bound unbound
  · rfl

theorem State.liftIntake_of_bound (state : s.intake.state = .bound) (bound : s.intake.bound = some n) :
    s.liftIntake = ((s.returnBound n).setIntakeRequest false).modIntake fun i =>
      { i with state := .empty, bound := none } := by
  rw [State.liftIntake, state, bound]

/-- The state an order goes to whose tin was lifted at the intake, and the slot then (R13). -/
def State.returnsTo (s : State) (n : Nat) (o : Order) : OrderState × Option Nat :=
  if o.fromSlot then (if s.book.slot = none then (.returning, some n) else (.interrupted, s.book.slot))
  else (.queued, s.book.slot)

theorem State.returnBound_of_live (live : s.order? n = some o) (bound : o.state = .bound) :
    ∃ t : State, s.returnBound n = { s with
        book := t.book, notices := queueNotice s.notices (.orderState n (s.returnsTo n o).1 0 o.pendingEnd) } ∧
      t.book.slot = (s.returnsTo n o).2 ∧ t.order? n = some { o with tin := none, state := (s.returnsTo n o).1 } ∧
      ∀ m, m ≠ n → t.order? m = s.order? m := by
  have untinned : (s.modOrder n fun o => { o with tin := none }).order? n = some { o with tin := none } :=
    State.order?_modOrder_self (f := fun o => { o with tin := none }) live (by intro; rfl)
  have others {m} (other : m ≠ n) : (s.modOrder n fun o => { o with tin := none }).order? m = s.order? m :=
    State.order?_modOrder_of_ne (by intro; rfl) other
  have changed (slot : Option Nat) (st : OrderState) (away : st ≠ .bound) :
      let u := ((s.modOrder n fun o => { o with tin := none }).setSlot slot).changeOrder n st
      u = { s with book := u.book, notices := queueNotice s.notices (.orderState n st 0 o.pendingEnd) } ∧
        u.book.slot = slot ∧ u.order? n = some { o with tin := none, state := st } ∧
        ∀ m, m ≠ n → u.order? m = s.order? m := by
    have found : ((s.modOrder n fun o => { o with tin := none }).setSlot slot).order? n = some { o with tin := none } :=
      untinned
    have told := State.changeOrder_of_ne (st := st) found (by rw [bound]; exact away.symm)
    refine ⟨by rw [told]; rfl, by rw [told]; rfl, State.order?_changeOrder_self found st, fun m other => ?_⟩
    rw [State.order?_changeOrder_of_ne other]
    exact others other
  rw [State.returnBound, live]
  dsimp only
  by_cases slotted : o.fromSlot = true
  · rw [if_pos slotted, State.returnsTo, if_pos slotted]
    by_cases free : s.book.slot = none
    · have ⟨frame, slot, record, rest⟩ := changed (some n) .returning (by decide)
      have free' : (s.modOrder n fun o => { o with tin := none }).book.slot = none := free
      rw [if_pos free, if_pos free']
      exact ⟨_, frame, slot, record, rest⟩
    · have ⟨frame, slot, record, rest⟩ := changed s.book.slot .interrupted (by decide)
      have free' : ¬ (s.modOrder n fun o => { o with tin := none }).book.slot = none := free
      rw [if_neg free, if_neg free']
      exact ⟨_, frame, slot, record, rest⟩
  · have ⟨frame, slot, record, rest⟩ := changed s.book.slot .queued (by decide)
    rw [if_neg slotted, State.returnsTo, if_neg slotted]
    exact ⟨_, frame, slot, record, rest⟩

/-- Settles O34, by what stands at the intake. -/
theorem intakeTakesAndLosesATin : Obligations.IntakeTakesAndLosesATin := by
  refine ⟨⟨fun s cls working unbound => ⟨?lidded, fun withheld => ?waits, fun allowed missing => ?refused,
      fun o b allowed found => ?bound⟩, fun s working allowed => ⟨fun o b waits found => ?retried,
      fun waiting missing => ?again, fun refused missing => ?same⟩⟩,
    fun s working unbound => ?lifted, fun s n o working state bound live of_state => ?returned⟩
  case lidded =>
    refine (State.command_of_working working _).trans ?_
    rw [State.placeTin_of_lidded unbound]
  case waits =>
    refine (State.command_of_working working _).trans ?_
    rw [State.placeTin_of_unbound unbound, State.takeTin_of_withheld (by exact withheld)]
    rfl
  case refused =>
    refine (State.command_of_working working _).trans ?_
    rw [State.placeTin_of_unbound unbound, State.takeTin_of_none (by exact allowed) (by exact missing)]
    rfl
  case bound =>
    refine (State.command_of_working working _).trans ?_
    rw [State.placeTin_of_unbound unbound, State.takeTin_of_bindable (by exact allowed) (by exact found)]
    rfl
  case retried =>
    refine (State.command_of_working working _).trans ?_
    rw [State.bindRetry_of_bindable allowed waits found]
  case again =>
    refine (State.command_of_working working _).trans ?_
    rw [State.bindRetry_of_waiting waiting allowed, State.attemptBinding_of_none missing]
  case same =>
    refine (State.command_of_working working _).trans ?_
    rw [State.bindRetry_of_refused refused, State.retryBinding_of_none missing]
  case lifted =>
    change execIntakeTinLifted s = _
    rw [execIntakeTinLifted, State.command_of_working working, State.liftIntake_of_unbound (by exact unbound)]
    rfl
  case returned =>
    obtain ⟨t, frame, slot, record, others⟩ :=
      State.returnBound_of_live (s := s.modIntake fun i => { i with present := false }) live of_state
    refine ⟨((s.modIntake fun i => { i with present := false }).returnsTo n o).1, { s with
      book := t.book
      notices := queueNotice s.notices (.orderState n ((s.modIntake fun i => { i with present := false }).returnsTo n
        o).1 0 o.pendingEnd)
      intake := { s.intake with state := .empty, bound := none, present := false }
      conveyor := { s.conveyor with intakeRequest := false } }, ?place, ?taken, rfl, record, others⟩
    case place =>
      dsimp only
      rw [slot]
      by_cases slotted : o.fromSlot = true
      · by_cases free : s.book.slot = none
        · exact .inr (.inl ⟨slotted, free, by simp [State.returnsTo, slotted, free]⟩)
        · exact .inr (.inr ⟨slotted, free, by simp [State.returnsTo, slotted, free]⟩)
      · exact .inl ⟨by simpa using slotted, by simp [State.returnsTo, slotted]⟩
    case taken =>
      change execIntakeTinLifted s = _
      rw [execIntakeTinLifted, State.command_of_working working, State.liftIntake_of_bound (by exact state)
        (by exact bound), frame]
      rfl

/-! ## The bay chosen (R120) -/

theorem bayAllowed_two : bayAllowed .two cls = true ↔ cls ∈ [TinClass.A, .B, .C] := by
  cases cls <;> simp [bayAllowed]

/-- A bay that may take the class and is free (R120). -/
def State.eligible (s : State) (b : BayId) (cls : TinClass) : Bool := bayAllowed b cls && s.bayFree b

theorem State.eligible_iff {b : BayId} :
    s.eligible b cls = true ↔ s.bayFree b = true ∧ (b = .two → cls ∈ [TinClass.A, .B, .C]) := by
  cases b with
  | one => simp [State.eligible, bayAllowed]
  | two => rw [State.eligible, Bool.and_eq_true, bayAllowed_two, and_comm]; simp

theorem State.chooseBay_cases (s : State) (cls : TinClass) :
    (s.eligible .one cls = true ∧ s.eligible .two cls = true ∧
      s.chooseBay cls = if s.bayOne.emptySince ≤ s.bayTwo.emptySince then some .one else some .two) ∨
    (s.eligible .one cls = true ∧ s.eligible .two cls = false ∧ s.chooseBay cls = some .one) ∨
    (s.eligible .one cls = false ∧ s.eligible .two cls = true ∧ s.chooseBay cls = some .two) ∨
    (s.eligible .one cls = false ∧ s.eligible .two cls = false ∧ s.chooseBay cls = none) := by
  unfold State.chooseBay State.eligible
  cases bayAllowed .one cls && s.bayFree .one <;> cases bayAllowed .two cls && s.bayFree .two <;> simp

/-- The bay chosen is eligible, and no other has been EMPTY the longer (R120). -/
theorem State.chooseBay_sound {b : BayId} (chosen : s.chooseBay cls = some b) : s.eligible b cls = true ∧
    ∀ c, c ≠ b → s.eligible c cls = true →
      (s.bay b).emptySince ≤ (s.bay c).emptySince ∧ ((s.bay b).emptySince = (s.bay c).emptySince → b = .one) := by
  rcases s.chooseBay_cases cls with ⟨one, two, both⟩ | ⟨one, two, only⟩ | ⟨one, two, only⟩ | ⟨-, -, neither⟩
  · by_cases longer : s.bayOne.emptySince ≤ s.bayTwo.emptySince
    · rw [both, if_pos longer] at chosen
      cases chosen
      refine ⟨one, fun c other _ => ?_⟩
      cases c with
      | one => exact absurd rfl other
      | two => exact ⟨longer, fun _ => rfl⟩
    · rw [both, if_neg longer] at chosen
      cases chosen
      refine ⟨two, fun c other _ => ?_⟩
      cases c with
      | one => exact ⟨(Nat.not_le.1 longer).le, fun same => absurd same.ge longer⟩
      | two => exact absurd rfl other
  · rw [only] at chosen
    cases chosen
    refine ⟨one, fun c other eligible => ?_⟩
    cases c with
    | one => exact absurd rfl other
    | two => simp [two] at eligible
  · rw [only] at chosen
    cases chosen
    refine ⟨two, fun c other eligible => ?_⟩
    cases c with
    | one => simp [one] at eligible
    | two => exact absurd rfl other
  · simp [neither] at chosen

theorem State.chooseBay_none (none_chosen : s.chooseBay cls = none) :
    s.bayFree .one = false ∧ (s.bayFree .two = false ∨ cls ∈ [TinClass.D, .E]) := by
  rcases s.chooseBay_cases cls with ⟨-, -, both⟩ | ⟨-, -, only⟩ | ⟨-, -, only⟩ | ⟨one, two, -⟩
  · rw [both] at none_chosen
    split at none_chosen <;> cases none_chosen
  · simp [only] at none_chosen
  · simp [only] at none_chosen
  · refine ⟨by simpa [State.eligible, bayAllowed] using one, ?_⟩
    cases cls
    case D | E => simp
    all_goals exact .inl (by simpa [State.eligible, bayAllowed] using two)

/-- Settles O38: the choice by the two bays, and no start without one. -/
theorem bayChosenIsEmptyTheLonger : Obligations.BayChosenIsEmptyTheLonger := by
  refine ⟨fun s cls => ⟨fun b chosen => ?chosen, State.chooseBay_none⟩, fun s n o working serves live none_chosen =>
    ?stays⟩
  case chosen =>
    obtain ⟨eligible, longer⟩ := State.chooseBay_sound chosen
    have ⟨free, allowed⟩ := State.eligible_iff.1 eligible
    exact ⟨free, allowed, fun c other free allowed => longer c other (State.eligible_iff.2 ⟨free, allowed⟩)⟩
  case stays =>
    refine (State.command_of_working working _).trans ?_
    have order : s.station.transfer.order = n := by rw [Station.transfer, serves]; rfl
    have no_bay : (s.order? s.station.transfer.order).bind (fun o => s.chooseBay o.cls) = none := by
      rw [order, live, Option.bind_some, none_chosen]
    rw [State.startTransfer, State.startStation]
    simp only [no_bay, ite_self]

end Sys2Proof.Machine
end
section
/-! The starts and the ends of transfers (O35, O36). -/

namespace Sys2Proof.Machine

variable {s : State} {n id : Nat} {o : Order} {b : BayId} {d : Dest} {t : Transfer}

/-! ## Starts (R114) -/

theorem State.startIntake_of_ready (allowed : s.startsAllowed = true) (state : s.intake.state = .bound)
    (bound : s.intake.bound = some n) (asked : s.conveyor.intakeRequest = true) (free : s.conveyor.toDispense = none)
    (idle : s.station.state = .idle) (absent : s.station.present = false) (live : s.order? n = some o)
    (tin : o.tin = some id) : s.startIntake = { s with
      intake := { s.intake with state := .empty, bound := none }
      conveyor := { s.conveyor with
        intakeRequest := false
        toDispense := some (.started .intake n id none false none false) }
      station := { s.station with state := .receiving, order := some n } } := by
  have record : (s.record .dispense).isNone = true := by
    have none_there : s.record .dispense = none := free
    rw [none_there, Option.isNone_none]
  have ready : (s.conveyor.intakeRequest && s.startsAllowed && (s.record .dispense).isNone
      && s.station.state == .idle && !s.station.present) = true := by
    simp [asked, allowed, record, idle, absent]
  have its_tin : ((s.order? n).bind (·.tin)).getD 0 = id := by rw [live, Option.bind_some, tin, Option.getD_some]
  simp only [State.startIntake, state, bound, ready, if_true, its_tin]
  rfl

theorem Station.transfer_of_tin {st : Station} {c : TinContext} (serves : st.order = some n) (tin : st.tin = some c) :
    st.transfer = .started .dispense n c.id none true (some c) st.gentleRecord := by
  rw [Station.transfer, serves, Station.tinId, tin]
  rfl

theorem State.startStation_of_ready {c : TinContext} (allowed : s.startsAllowed = true)
    (complete : s.station.state = .complete) (asked : s.conveyor.stationRequest = true)
    (serves : s.station.order = some n) (tin : s.station.tin = some c) (live : s.order? n = some o)
    (chosen : s.chooseBay o.cls = some b) :
    s.startStation = (({ s with
        station := { s.station with state := .sending, plan := none, tin := none, freshNeeded := false }
        conveyor := { s.conveyor with stationRequest := false } } : State).setRecord (.bay b)
      (some (.started .dispense n c.id none true (some c) s.station.gentleRecord))).modBay b fun y =>
        { y with reservation := some { order := n, tin := c.id } } := by
  have ready : (s.conveyor.stationRequest && s.startsAllowed && s.station.state == .complete) = true := by
    simp [asked, allowed, complete]
  have record := Station.transfer_of_tin serves tin
  have bay : (s.order? s.station.transfer.order).bind (fun o => s.chooseBay o.cls) = some b := by
    have order : s.station.transfer.order = n := by rw [record]; rfl
    rw [order, live, Option.bind_some, chosen]
  rw [State.startStation, if_pos ready]
  simp only [bay]
  rw [record]
  cases b <;> rfl

theorem State.freeLane_of_lowest {lane : Lane} (empty : s.lanes[lane].state = .empty)
    (absent : s.lanes[lane].present = false)
    (lowest : ∀ l : Lane, l < lane → s.lanes[l].state ≠ .empty ∨ s.lanes[l].present = true) :
    s.freeLane = some lane := by
  have free_iff (l : Lane) : s.lanes[l].free = true ↔ s.lanes[l].state = .empty ∧ s.lanes[l].present = false := by
    simp only [LaneRecord.free, Bool.and_eq_true, beq_iff_eq, Bool.not_eq_true']
  unfold State.freeLane
  rw [List.find?_eq_some_iff_getElem]
  refine ⟨(free_iff lane).2 ⟨empty, absent⟩, lane.val, by simp, by simp, fun j before => ?_⟩
  have earlier := lowest ⟨j, before.trans lane.isLt⟩ before
  rw [Bool.not_eq_true', Bool.eq_false_iff, List.getElem_finRange]
  intro free
  have ⟨empty, absent⟩ := (free_iff _).1 free
  exact earlier.elim (fun taken => taken empty) fun present =>
    Bool.false_ne_true (absent.symm.trans present)

theorem State.startLidder_of_ready {lane : Lane} {c : LidderTin} (allowed : s.startsAllowed = true)
    (waits : s.lidder.state = .dischargeWait) (asked : s.conveyor.outletRequest = true)
    (free : s.conveyor.toOutlet = none) (tin : s.lidder.tin = some c) (chosen : s.freeLane = some lane) :
    s.startLidder = ({ s with
        lidder := { s.lidder with
          state := .sending, tin := none, arrived := false, lidOn := false, repressUsed := false }
        conveyor := { s.conveyor with
          outletRequest := false
          toOutlet := some (.started .lidder c.order c.tin (some lane) true none false) } } : State).modLane lane
        fun r => { r with state := .reserved, tin := some { order := c.order, tin := c.tin } } := by
  have record : (s.record .outlet).isNone = true := by
    have none_there : s.record .outlet = none := free
    rw [none_there, Option.isNone_none]
  have ready : (s.conveyor.outletRequest && s.startsAllowed && s.lidder.state == .dischargeWait
      && (s.record .outlet).isNone) = true := by
    simp [asked, allowed, waits, record]
  rw [State.startLidder, if_pos ready, tin, chosen]
  rfl

theorem State.takeSource_of_ready (allowed : s.startsAllowed = true) (idle : s.lidder.state = .idle)
    (absent : s.lidder.present = false) (free : s.conveyor.toLidder = none) :
    s.takeSource = match s.lidder.requesters.head? with
      | some (.bay b) =>
        match (s.bay b).tin with
        | some t => (s.reserveLidder (.started (.bay b) t.order t.tin none false none false)).emptyBay b
        | none => s
      | some .dispense => (s.reserveLidder s.station.transfer).sendTin
      | none => s := by
  have record : (s.record .lidder).isNone = true := by
    have none_there : s.record .lidder = none := free
    rw [none_there, Option.isNone_none]
  have ready : (s.lidder.state == .idle && !s.lidder.present && (s.record .lidder).isNone
      && s.startsAllowed) = true := by
    simp [idle, absent, record, allowed]
  rw [State.takeSource]
  exact if_pos ready

/-- Settles O35, start by start. -/
theorem transfersStart : Obligations.TransfersStart := by
  refine ⟨⟨fun s n id o working allowed state bound asked free idle absent live tin => ?intake,
    fun s b n o c working allowed complete asked serves tin live chosen => ?station,
    fun s lane c working allowed waits asked free tin empty absent lowest => ?lidder⟩,
    fun s rest working allowed idle absent free => ⟨fun b c head tin => ?bay, fun n c head serves tin => ?dispense⟩⟩
  case intake =>
    refine (State.command_of_working working _).trans ?_
    rw [State.startTransfer, State.startIntake_of_ready allowed state bound asked free idle absent live tin]
  case station =>
    refine (State.command_of_working working _).trans ?_
    rw [State.startTransfer, State.startStation_of_ready allowed complete asked serves tin live chosen]
  case lidder =>
    refine (State.command_of_working working _).trans ?_
    rw [State.startTransfer,
      State.startLidder_of_ready allowed waits asked free tin (State.freeLane_of_lowest empty absent lowest)]
  case bay =>
    refine (State.command_of_working working _).trans ?_
    rw [State.takeSource_of_ready allowed idle absent free, head, List.head?_cons]
    simp only [tin, State.reserveLidder, State.modLidder, State.setRecord, Conveyor.setRecord, head, List.tail_cons,
      Transfer.started]
  case dispense =>
    refine (State.command_of_working working _).trans ?_
    rw [State.takeSource_of_ready allowed idle absent free, head, List.head?_cons]
    simp only [Station.transfer_of_tin serves tin, State.reserveLidder, State.modLidder, State.setRecord,
      Conveyor.setRecord, head, List.tail_cons, State.sendTin, State.modStation, Transfer.started]

/-! ## Ends (R115, R116, R118) -/

theorem State.arrive_of_running {cls : TinClass} {lid : Bool} (record : s.record d = some t)
    (running : t.state = .running) :
    s.arrive d cls lid =
      ((if d = .dispense then s.readTin cls lid else s).setPresent d t.lane true).endArrival d t := by
  rw [State.arrive, record]
  exact if_pos running

theorem State.riseOnRecord_of_other (other : t.state ≠ .running) :
    s.riseOnRecord d t = s.setRecord d (some { t with arrived := true }) := by
  cases state : t.state with
  | running => exact absurd state other
  | jammed => simp only [State.riseOnRecord, state]
  | halted => simp only [State.riseOnRecord, state]

/-- Settles O36, destination by destination. -/
theorem transfersEnd : Obligations.TransfersEnd := by
  refine ⟨fun s b t cls lid working record => ⟨fun running => ?bay, fun other => ?rise⟩,
    fun s t cls lid working record running => ?station, fun s t cls lid working record running => ?lidder,
    fun s t lane cls lid working record running to_lane => ?outlet, fun s d t working record running => ?timeout⟩
  case rise =>
    have kept : (s.modBay b fun y => { y with present := true }).record (.bay b) = some t := by
      cases b <;> exact record
    refine (State.command_of_working working _).trans ?_
    simp only [State.bayRise, kept, State.riseOnRecord_of_other other]
  case timeout =>
    refine (State.command_of_working working _).trans ?_
    rw [State.expireTransfer, record]
    simp only [running, if_true, State.jam]
  all_goals
    refine (State.command_of_working working _).trans ?_
    rw [State.arrive_of_running record running]
  case bay => rfl
  case station => rfl
  case lidder => rfl
  case outlet =>
    rw [to_lane, State.endArrival, State.handTin]
    simp only [to_lane]
    rfl

/-! ## What each destination makes of an arrival (O37) -/

section Station

variable (live : s.order? s.served = some o)

include live

theorem State.stationArrival_of_ended (ended : o.pendingEnd ≠ none) : s.stationArrival = s.enterClearing := by
  rw [State.stationArrival, live]
  exact if_pos (Option.isSome_iff_ne_none.2 ended)

theorem State.stationArrival_of_absent (unended : o.pendingEnd = none) (absent : s.station.present = false) :
    s.stationArrival = { s with station := { s.station with arrivalWaits := true } } := by
  rw [State.stationArrival, live]
  exact (if_neg (by simp [unended])).trans (if_pos (by simp [absent]))

/-- The station with the context of a tin that has arrived (R75). -/
def State.tinArrived (s : State) (o : Order) : State :=
  { s with station := { s.station with
    arrivalWaits := false
    tin := some { id := o.tin.getD 0, cls := o.cls, tare := none, last := none, entryStart := none,
                  lid := s.station.lid } } }

theorem State.stationArrival_of_present (unended : o.pendingEnd = none) (present : s.station.present = true) :
    s.stationArrival = if s.station.lid then (s.tinArrived o).fault .lidded none .none
      else if !o.route.dispense then (((s.tinArrived o).modStation fun st => { st with
        gentle := o.route.mix && s.readGentle o }).changeOrder s.served .dispensed).offerTin
      else (s.tinArrived o).settleTare := by
  rw [State.stationArrival, live]
  exact (if_neg (by simp [unended])).trans (if_neg (by simp [present]))

end Station

theorem Order.toBeLidded_iff : o.toBeLidded = true ↔ o.route.lid = true ∧ (o.lidOnly = true ∨ o.holdOpen = false) := by
  simp [Order.toBeLidded]

/-- Settles O37, destination by destination. -/
theorem arrivalsAreTakenByTheirStations : Obligations.ArrivalsAreTakenByTheirStations := by
  refine ⟨fun s o live => ⟨State.stationArrival_of_ended live, State.stationArrival_of_absent live,
      fun u unended present hu => ?station⟩, fun s b t o live => ?bay, fun s t o u live hu => ?lidder,
    fun s lane t o live => ?lane⟩
  case station =>
    have arrived := State.stationArrival_of_present live unended present
    have context : s.tinArrived o = u := hu.symm
    rw [context] at arrived
    refine ⟨fun lid => ?lidded, fun unlidded dispense => ?dispensed, fun unlidded dispense => ?passed⟩
    case lidded => rw [arrived, if_pos lid]
    case dispensed => rw [arrived, if_neg (by simp [unlidded]), if_neg (by simp [dispense])]
    case passed => rw [arrived, if_neg (by simp [unlidded]), if_pos (by simp [dispense])]
  case bay => simp only [State.bayArrival, live]
  case lidder =>
    have received : s.lidderArrival t = if o.toBeLidded then u.modLidder fun l => { l with resume := some .place }
        else (u.lidDone t.order).dischargeWait := by
      rw [State.lidderArrival, live, hu]
      rfl
    refine ⟨fun lids => ?place, fun passes => ?discharge⟩
    case place => rw [received, if_pos (Order.toBeLidded_iff.2 lids), State.modLidder]
    case discharge => rw [received, if_neg (mt Order.toBeLidded_iff.1 passes), State.lidDone]
  case lane => simp only [State.laneArrival, live]

end Sys2Proof.Machine
end

section
/-! The operation of a bay (O39), its fault, READY and clearing (O40). -/

namespace Sys2Proof.Machine

variable {s : State} {b : BayId} {t : TinRef}

/-! ## One bay's operation -/

theorem State.whenBay_of_state {st : BayState} (state : (s.bay b).state = st) (f : State → State) :
    s.whenBay b st f = f s := if_pos state

theorem Bay.tinOrder_of_tin {y : Bay} (tin : y.tin = some t) : y.tinOrder = t.order := by
  rw [Bay.tinOrder, tin]

theorem State.beginSpin_of_ready (closed : (s.bay b).clampClosed = true) (present : (s.bay b).present = true) :
    s.beginSpin b = s.modBay b fun y => { y with
      state := .spinning, clamp := .closed, brake := false
      inForce := some (s.settings.spin y.orderProfile y.gentle) } := by
  simp only [State.beginSpin, closed, present, Bool.and_self, if_true]

theorem State.beginSpin_of_absent (absent : (s.bay b).present = false) : s.beginSpin b = s.bayFault b .clamp := by
  simp only [State.beginSpin, absent, Bool.and_false, Bool.false_eq_true, if_false]

/-- The bay unclamped; it waits for the clamp to open (R125). -/
theorem State.unclamp_of_closed (closed : (s.bay b).clampClosed = true) :
    s.unclamp b = s.modBay b fun y => { y with
      state := .unclamping, cause := none, clamp := .opened, brake := false } := by
  have still : ((s.modBay b fun y => { y with
      state := .unclamping, cause := none, clamp := .opened, brake := false }).bay b).clampClosed = true := by
    rw [State.bay_modBay]
    exact closed
  rw [State.unclamp]
  exact if_pos still

theorem State.unclamp_of_open (opened : (s.bay b).clampClosed = false) :
    s.unclamp b = (s.modBay b fun y => { y with brake := false }).bayReady b := by
  have still : ¬ ((s.modBay b fun y => { y with
      state := .unclamping, cause := none, clamp := .opened, brake := false }).bay b).clampClosed = true := by
    rw [State.bay_modBay]
    simp [opened]
  have ready : (s.modBay b fun y => { y with
      state := .unclamping, cause := none, clamp := .opened, brake := false }).bayReady b =
      (s.modBay b fun y => { y with brake := false }).bayReady b := by
    cases b <;> rfl
  rw [State.unclamp]
  exact (if_neg still).trans ready

section Begin

variable (fresh : (s.bay b).mixDone = false)

theorem State.beginBay_of_mixed (mixed : (s.bay b).mixDone = true) : s.beginBay b = s.unclamp b := if_pos mixed

include fresh

theorem State.beginBay_of_absent (absent : (s.bay b).present = false) : s.beginBay b = s.bayFault b .clamp := by
  rw [State.beginBay, if_neg (by simp [fresh]), if_pos (by simp [absent])]

theorem State.beginBay_of_present (present : (s.bay b).present = true) :
    s.beginBay b = if (s.bay b).clampClosed then
        (s.modBay b fun y => { y with state := .clamping, clamp := .closed, brake := false }).beginSpin b
      else s.modBay b fun y => { y with state := .clamping, clamp := .closed, brake := false } := by
  have clamp : ((s.modBay b fun y => { y with state := .clamping, clamp := .closed, brake := false }).bay b).clampClosed
      = (s.bay b).clampClosed := by rw [State.bay_modBay]
  rw [State.beginBay, if_neg (by simp [fresh]), if_neg (by simp [present])]
  dsimp only
  rw [clamp]

end Begin

/-! ## The events of a bay -/

section Rows

variable (working : s.supply.warned = false)

include working

theorem exec_bayBeginOperation_of_loading (allowed : s.startsAllowed = true) (loading : (s.bay b).state = .loading) :
    exec (.bayBeginOperation b) s = .next (s.beginBay b).finish := by
  change execBayBeginOperation b s = _
  rw [execBayBeginOperation, State.command_of_working working, State.whenBay_of_state loading, if_pos allowed]

theorem exec_bayClampClosedRise_of_clamping (clamping : (s.bay b).state = .clamping) :
    exec (.bayClampClosedRise b) s =
      .next ((s.modBay b fun y => { y with clampClosed := true }).beginSpin b).finish := by
  have still : ((s.modBay b fun y => { y with clampClosed := true }).bay b).state = .clamping := by
    rw [State.bay_modBay]
    exact clamping
  change execBayClampClosedRise b s = _
  rw [execBayClampClosedRise, State.command_of_working working, State.whenBay_of_state still]

theorem exec_bayClampTimeout_of_clamping (clamping : (s.bay b).state = .clamping) :
    exec (.bayClampTimeout b) s = .next (s.bayFault b .clamp).finish := by
  change execBayClampTimeout b s = _
  rw [execBayClampTimeout, State.command_of_working working, State.whenBay_of_state clamping]

theorem exec_baySpinEnd_of_spinning (spinning : (s.bay b).state = .spinning) :
    exec (.baySpinEnd b) s = .next (s.modBay b fun y => { y with
      state := .braking, mixDone := true, cause := some .spinEnd, brake := true }).finish := by
  change execBaySpinEnd b s = _
  rw [execBaySpinEnd, State.command_of_working working, State.whenBay_of_state spinning, State.brakeBay,
    State.modBay_modBay]

theorem exec_bayImbalanceTrip_of_spinning (spinning : (s.bay b).state = .spinning) :
    exec (.bayImbalanceTrip b) s = .next (s.modBay b fun y => { y with
      state := .braking, cause := some .imbalance, brake := true }).finish := by
  change execBayImbalanceTrip b s = _
  rw [execBayImbalanceTrip, State.command_of_working working, State.whenBay_of_state spinning, State.brakeBay]

theorem exec_bayClampClosedFall_of_spinning (spinning : (s.bay b).state = .spinning) :
    exec (.bayClampClosedFall b) s = .next (s.modBay b fun y => { y with
      state := .braking, cause := some .clamp, brake := true, clampClosed := false }).finish := by
  refine (State.command_of_working working (State.clampFall b)).trans ?_
  simp only [State.clampFall, State.bay_modBay, spinning, State.brakeBay, State.modBay_modBay]

theorem exec_bayClampClosedFall_of_unclamping (unclamping : (s.bay b).state = .unclamping) :
    exec (.bayClampClosedFall b) s =
      .next ((s.modBay b fun y => { y with clampClosed := false }).bayReady b).finish := by
  refine (State.command_of_working working (State.clampFall b)).trans ?_
  simp only [State.clampFall, State.bay_modBay, unclamping]

theorem exec_bayPresenceFall_of_spinning (spinning : (s.bay b).state = .spinning) :
    exec (.bayPresenceFall b) s = .next (s.modBay b fun y => { y with
      state := .braking, cause := some .clamp, brake := true, present := false }).finish := by
  refine (State.command_of_working working (State.bayFall b)).trans ?_
  simp only [State.bayFall, State.bay_modBay, spinning, State.brakeBay, State.modBay_modBay]

theorem exec_bayBrakeEnd (b : BayId) : exec (.bayBrakeEnd b) s = .next (s.brakeEnds b).finish := by
  change execBayBrakeEnd b s = _
  rw [execBayBrakeEnd, State.command_of_working working]

theorem exec_bayUnclampTimeout_of_unclamping (unclamping : (s.bay b).state = .unclamping) :
    exec (.bayUnclampTimeout b) s = .next (s.bayFault b .clamp).finish := by
  change execBayUnclampTimeout b s = _
  rw [execBayUnclampTimeout, State.command_of_working working, State.whenBay_of_state unclamping]

end Rows

theorem State.brakeEnds_of_braking (braking : (s.bay b).state = .braking) : s.brakeEnds b = s.endBrake b := by
  rw [State.brakeEnds, braking]

/-- Settles O39, event by event. -/
theorem bayOperates : Obligations.BayOperates := by
  refine ⟨fun s b working allowed loading => ?begins, fun s b working => ⟨fun clamping present => ?spins,
    fun clamping absent => ?absent, exec_bayClampTimeout_of_clamping working, fun spinning =>
    ⟨exec_baySpinEnd_of_spinning working spinning, exec_bayImbalanceTrip_of_spinning working spinning,
      exec_bayClampClosedFall_of_spinning working spinning, exec_bayPresenceFall_of_spinning working spinning⟩,
    fun braking => ?brakes, fun held => ?held, fun unclamping =>
    ⟨exec_bayClampClosedFall_of_unclamping working unclamping,
      exec_bayUnclampTimeout_of_unclamping working unclamping⟩⟩, fun st => ?profiles⟩
  case begins =>
    rw [exec_bayBeginOperation_of_loading working allowed loading]
    refine ⟨fun fresh present opened => ?clamps, fun fresh present closed => ?spinsAtOnce, fun fresh absent => ?noTin,
      fun mixed closed => ?unclampsMixed, fun mixed opened => ?readyMixed⟩
    case clamps => rw [State.beginBay_of_present fresh present, if_neg (by simp [opened])]
    case spinsAtOnce =>
      rw [State.beginBay_of_present fresh present, if_pos closed, State.beginSpin_of_ready
        (by rw [State.bay_modBay]; exact closed) (by rw [State.bay_modBay]; exact present), State.modBay_modBay,
        State.modBay_settings]
    case noTin => rw [State.beginBay_of_absent fresh absent]
    case unclampsMixed => rw [State.beginBay_of_mixed mixed, State.unclamp_of_closed closed]
    case readyMixed => rw [State.beginBay_of_mixed mixed, State.unclamp_of_open opened]
  case spins =>
    rw [exec_bayClampClosedRise_of_clamping working clamping, State.beginSpin_of_ready
      (by rw [State.bay_modBay]) (by rw [State.bay_modBay]; exact present), State.modBay_modBay,
      State.modBay_settings]
  case absent =>
    rw [exec_bayClampClosedRise_of_clamping working clamping,
      State.beginSpin_of_absent (by rw [State.bay_modBay]; exact absent)]
  case brakes =>
    rw [exec_bayBrakeEnd working b, State.brakeEnds_of_braking braking]
    refine ⟨fun cause closed => ?unclamps, fun cause opened => ?ready, fun cause => ?imbalance, fun cause => ?clamp⟩
    all_goals simp only [State.endBrake, cause]
    case unclamps => rw [State.unclamp_of_closed closed]
    case ready => rw [State.unclamp_of_open opened]
  case held => rw [exec_bayBrakeEnd working b, State.brakeEnds_of_held held]
  case profiles =>
    refine ⟨⟨rfl, rfl, rfl, rfl⟩, rfl, rfl, ?_, rfl⟩
    simp only [Settings.spin, Settings.duration, if_true, max_self]

/-! ## Fault, READY and clearing -/

theorem State.bayFault_of_tin (tin : (s.bay b).tin = some t) (k : FaultKind) :
    s.bayFault b k = ((s.modBay b fun y => { y with clamp := .opened, brake := false }).faultAtDest t.order (.bay b) k
      false).modBay b fun y => { y with state := .fault, cause := none } := by
  have order : ((s.modBay b fun y => { y with clamp := .opened, brake := false }).bay b).tinOrder = t.order := by
    rw [State.bay_modBay]
    exact Bay.tinOrder_of_tin tin
  simp only [State.bayFault, order]

theorem State.bayReady_of_tin (tin : (s.bay b).tin = some t) :
    s.bayReady b = { ((s.modBay b fun y => { y with state := .ready, cause := none, clamp := .opened }).modOrder
      t.order fun o => { o with route := { o.route with mix := false } }) with
        lidder := { s.lidder with requesters := s.lidder.requesters ++ [.bay b] } } := by
  rw [State.bayReady, Bay.tinOrder_of_tin tin]
  cases b <;> rfl

theorem exec_bayPresenceFall_of_other (working : s.supply.warned = false) (other : (s.bay b).state ∈ [BayState.empty,
    .loading, .clamping, .braking, .unclamping, .ready, .fault, .halted]) :
    exec (.bayPresenceFall b) s = .next (s.modBay b fun y => { y with present := false }).finish := by
  refine (State.command_of_working working (State.bayFall b)).trans ?_
  simp only [State.bayFall, State.bay_modBay]
  cases state : (s.bay b).state
  case spinning | clearing => simp [state] at other
  all_goals rfl

theorem exec_bayPresenceFall_of_clearing (working : s.supply.warned = false) (clearing : (s.bay b).state = .clearing)
    (tin : (s.bay b).tin = some t) :
    exec (.bayPresenceFall b) s =
      .next (((s.modBay b fun y => { y with present := false }).reportLift t.order).emptyBay b).finish := by
  refine (State.command_of_working working (State.bayFall b)).trans ?_
  simp only [State.bayFall, State.bay_modBay, clearing, State.liftBay, tin]

/-- Settles O40, part by part. -/
theorem bayFaultReadyAndClearing : Obligations.BayFaultReadyAndClearing := by
  refine ⟨fun s b t k tin => ⟨State.bayFault_of_tin tin k, State.bayReady_of_tin tin⟩, fun s b working =>
    ⟨exec_bayPresenceFall_of_other working, fun t => exec_bayPresenceFall_of_clearing working, fun none_there =>
    ?rise⟩, fun s b => ⟨?emptied, ?moment⟩⟩
  case rise =>
    have record : (s.modBay b fun y => { y with present := true }).record (.bay b) = none := by
      cases b <;> exact none_there
    refine (State.command_of_working working (State.bayRise b)).trans ?_
    simp only [State.bayRise, record]
  case emptied => cases b <;> rfl
  case moment => cases b <;> rfl

end Sys2Proof.Machine
end

section
/-! The lidder's placings and presses (O41, O42), and the presence sensors of lidder and lanes (O43). -/

namespace Sys2Proof.Machine

variable {s : State} {t : LidderTin}

/-! ## The lidder begins a placing or a press -/

section Placing

variable (tin : s.lidder.tin = some t) (present : s.lidder.present = true)

include tin present

theorem State.beginPlacing_of_lids (lids : 1 ≤ s.lidder.magazines.count t.cls) :
    s.beginPlacing false = { s with lidder := { s.lidder with
      state := .placing, resume := none, loaded := false
      magazines := s.lidder.magazines.set t.cls (s.lidder.magazines.count t.cls - 1) } } := by
  have some_left : (s.lidder.magazines.count t.cls == 0) = false := beq_false_of_ne (by omega)
  rw [State.beginPlacing, tin]
  exact (if_neg (by simp [present])).trans (if_neg (by simp [some_left]))

theorem State.beginPlacing_of_empty {e : Bool} (empty : e = true ∨ s.lidder.magazines.count t.cls = 0)
    (first : s.lidder.state ≠ .waitLids) :
    s.beginPlacing e = { s with
      lidder := { s.lidder with
        state := .waitLids, resume := none, loaded := false, magazines := s.lidder.magazines.set t.cls 0 }
      notices := queueNotice s.notices (.lidsOut t.order t.cls 0) } := by
  have none_left : (e || s.lidder.magazines.count t.cls == 0) = true := by
    rcases empty with marked | counted
    · rw [marked, Bool.true_or]
    · rw [counted, beq_self_eq_true, Bool.or_true]
  rw [State.beginPlacing, tin]
  exact ((if_neg (by simp [present])).trans (if_pos none_left)).trans (if_neg first)

end Placing

section BeginLidder

variable {e : Bool} (allowed : s.startsAllowed = true)

include allowed

theorem State.beginLidder_of_place (receiving : s.lidder.state = .receiving)
    (resume : s.lidder.resume = some .place) : s.beginLidder e = s.beginPlacing e := by
  simp only [State.beginLidder, allowed, receiving, resume, if_true]

theorem State.beginLidder_of_press (receiving : s.lidder.state = .receiving)
    (resume : s.lidder.resume = some .press) : s.beginLidder e = s.press false := by
  simp only [State.beginLidder, allowed, receiving, resume, if_true]

theorem State.beginLidder_of_wait (waits : s.lidder.state = .waitLids) :
    s.beginLidder e = if s.lidder.loaded then s.beginPlacing e else s := by
  simp only [State.beginLidder, allowed, waits, if_true]

end BeginLidder

theorem Magazines.count_set_self (m : Magazines) (c : TinClass) (n : Nat) : (m.set c n).count c = n := by
  rw [Magazines.count_set, if_pos rfl]

theorem Magazines.count_set_of_ne (m : Magazines) {c k : TinClass} (other : k ≠ c) (n : Nat) :
    (m.set c n).count k = m.count k := by
  rw [Magazines.count_set, if_neg other]

/-- Settles O41, by the lidder's state and its resume point. -/
theorem lidderBeginsPlacing : Obligations.LidderBeginsPlacing := by
  intro s e t working allowed tin present
  have row : exec (.lidderBeginPlacing e) s = .next (s.beginLidder e).finish :=
    State.command_of_working working (State.beginLidder e)
  refine ⟨fun ready lids stocked => ?places, fun receiving resume empty => ?waits, fun receiving resume => ?presses,
    fun waits unloaded => ?stays⟩
  case places =>
    refine ⟨s.lidder.magazines.set t.cls (s.lidder.magazines.count t.cls - 1), Magazines.count_set_self ..,
      fun k other => Magazines.count_set_of_ne _ other _, ?_⟩
    have begun : s.beginLidder e = s.beginPlacing false := by
      rcases ready with ⟨receiving, resume⟩ | ⟨waits, loaded⟩
      · rw [State.beginLidder_of_place allowed receiving resume, lids]
      · rw [State.beginLidder_of_wait allowed waits, if_pos loaded, lids]
    rw [row, begun, State.beginPlacing_of_lids tin present stocked]
  case waits =>
    refine ⟨s.lidder.magazines.set t.cls 0, Magazines.count_set_self .., fun k other =>
      Magazines.count_set_of_ne _ other _, ?_⟩
    rw [row, State.beginLidder_of_place allowed receiving resume,
      State.beginPlacing_of_empty tin present empty (by simp [receiving])]
  case presses =>
    rw [row, State.beginLidder_of_press allowed receiving resume, State.press, State.modLidder]
  case stays => rw [row, State.beginLidder_of_wait allowed waits, if_neg (by simp [unloaded])]

/-! ## The lid placed, pressed and checked -/

theorem Lidder.tinOrder_of_tin {l : Lidder} (tin : l.tin = some t) : l.tinOrder = t.order := by
  rw [Lidder.tinOrder, tin]

theorem State.whenLidder_of_state {st : LidderState} (state : s.lidder.state = st) (f : State → State) :
    s.whenLidder st f = f s := if_pos state

theorem State.whenLidder_of_other {st : LidderState} (other : s.lidder.state ≠ st) (f : State → State) :
    s.whenLidder st f = s := if_neg other

theorem State.seatFault_of_tin (tin : s.lidder.tin = some t) :
    s.seatFault = (s.faultAtDest t.order .lidder .seat false).modLidder fun l => { l with
      state := .fault, resume := none, loaded := false } := by
  rw [State.seatFault, Lidder.tinOrder_of_tin tin]

theorem exec_pressComplete_of_pressing (working : s.supply.warned = false) (pressing : s.lidder.state = .pressing)
    (seated : Bool) : exec (.pressComplete seated) s = .next (s.checkSeat seated).finish := by
  change execPressComplete seated s = _
  rw [execPressComplete, State.command_of_working working, State.whenLidder_of_state pressing]

/-- Two changes of one order are one, when the first keeps its number. -/
theorem State.modOrder_modOrder (s : State) (n : Nat) (g f : Order → Order) (keeps : ∀ o, (f o).number = o.number) :
    (s.modOrder n f).modOrder n g = s.modOrder n fun o => g (f o) := by
  have both : ∀ o : Order, (if (if o.number = n then f o else o).number = n then g (if o.number = n then f o else o)
      else if o.number = n then f o else o) = if o.number = n then g (f o) else o := by
    intro o
    by_cases own : o.number = n
    · simp only [own, keeps, if_true]
    · simp only [own, if_false]
  simp only [State.modOrder, List.map_map, Function.comp_def, both]

theorem State.checkSeat_of_seated (tin : s.lidder.tin = some t) :
    s.checkSeat true = { (s.modOrder t.order fun o => { o with
        flags := { o.flags with lidded := true }, route := { o.route with lid := false }, lidOnly := false }) with
      lidder := { s.lidder with state := .dischargeWait, resume := none }
      conveyor := { s.conveyor with outletRequest := true } } := by
  have marked : (s.setFlag t.order fun f => { f with lidded := true }).lidDone t.order =
      s.modOrder t.order fun o => { o with
        flags := { o.flags with lidded := true }, route := { o.route with lid := false }, lidOnly := false } :=
    State.modOrder_modOrder s t.order _ (fun o => { o with flags := { o.flags with lidded := true } }) (by intro; rfl)
  simp only [State.checkSeat, if_true, Lidder.tinOrder_of_tin tin, marked]
  rfl

/-- Settles O42, by the lidder's state and what the seat check finds. -/
theorem lidPlacedPressedAndChecked : Obligations.LidPlacedPressedAndChecked := by
  refine fun s t working tin => ⟨fun placing => ⟨?placed, ?timeout⟩, fun pressing => ⟨?seated, fun first => ?again,
    fun used => ?fault⟩⟩
  case placed =>
    change execLidPlaced s = _
    rw [execLidPlaced, State.command_of_working working, State.whenLidder_of_state placing]
    rfl
  case timeout =>
    change execLidPlaceTimeout s = _
    rw [execLidPlaceTimeout, State.command_of_working working, State.whenLidder_of_state placing]
    exact congrArg (fun u : State => Host.Outcome.next u.finish) (State.seatFault_of_tin tin)
  case seated => rw [exec_pressComplete_of_pressing working pressing, State.checkSeat_of_seated tin]
  case again =>
    rw [exec_pressComplete_of_pressing working pressing, State.checkSeat, if_neg Bool.false_ne_true,
      if_neg (by simp [first]), State.press, State.modLidder]
  case fault =>
    rw [exec_pressComplete_of_pressing working pressing, State.checkSeat, if_neg Bool.false_ne_true, if_pos used,
      State.seatFault_of_tin tin]

/-! ## The presence sensors of the lidder and of the lanes -/

theorem State.lane_modLane (s : State) (l : Lane) (f : LaneRecord → LaneRecord) :
    (s.modLane l f).lanes[l] = f s.lanes[l] := Vector.getElem_set_self ..

theorem State.modLane_modLane (s : State) (l : Lane) (f g : LaneRecord → LaneRecord) :
    (s.modLane l f).modLane l g = s.modLane l fun r => g (f r) := by
  have own : (s.lanes.set l (f s.lanes[l]))[l] = f s.lanes[l] := Vector.getElem_set_self ..
  simp only [State.modLane, own, Vector.set_set]

theorem State.collect_of_unended {n : Nat} {o : Order} (live : s.order? n = some o) (unended : o.pendingEnd = none) :
    s.collect n = s.freeOrder n .collected := by
  have none_pending : s.pendingEndOf n = none := by rw [State.pendingEndOf, live, Option.bind_some, unended]
  rw [State.collect, none_pending]

section LaneFall

variable {lane : Lane} {r : TinRef}

theorem State.laneFall_of_free (free : s.lanes[lane].state ∈ [LaneState.empty, .reserved]) :
    s.laneFall lane = s.modLane lane fun l => { l with present := false } := by
  simp only [State.laneFall, State.lane_modLane]
  have either := List.mem_pair.1 free
  rcases either with state | state <;> simp only [state]

theorem State.laneFall_of_collect (collect : s.lanes[lane].state = .collect) (tin : s.lanes[lane].tin = some r) :
    s.laneFall lane = ((s.modLane lane fun l => { l with present := false }).collect r.order).modLane lane fun l =>
      { l with state := .empty, tin := none } := by
  simp only [State.laneFall, State.lane_modLane, collect, tin]

theorem State.laneFall_of_check (check : s.lanes[lane].state = .check) (tin : s.lanes[lane].tin = some r) :
    s.laneFall lane = (s.modLane lane fun l => { l with
      present := false, state := .empty, tin := none }).liftCheck r.order := by
  simp only [State.laneFall, State.lane_modLane, check, tin, State.modLane_modLane]

theorem State.laneFall_of_clearing (clearing : s.lanes[lane].state = .clearing)
    (tin : s.lanes[lane].tin = some r) :
    s.laneFall lane = ((s.modLane lane fun l => { l with present := false }).reportLift r.order).modLane lane fun l =>
      { l with state := .empty, tin := none } := by
  simp only [State.laneFall, State.liftLane, State.lane_modLane, clearing, tin]

end LaneFall

section LaneRise

variable {lane : Lane} {r : Transfer}

theorem State.laneRise_of_other (other : ∀ r, s.record .outlet = some r → r.lane ≠ some lane) :
    s.laneRise lane = s.modLane lane fun l => { l with present := true } := by
  have record : (s.modLane lane fun l => { l with present := true }).record .outlet = s.record .outlet := rfl
  rw [State.laneRise]
  cases kept : s.record .outlet with
  | none => simp only [record, kept]
  | some r => simp only [record, kept, other r kept, if_false]

theorem State.laneRise_of_record (kept : s.record .outlet = some r) (own : r.lane = some lane) :
    s.laneRise lane = (s.modLane lane fun l => { l with present := true }).riseOnRecord .outlet r := by
  have record : (s.modLane lane fun l => { l with present := true }).record .outlet = s.record .outlet := rfl
  simp only [State.laneRise, record, kept, own, if_true]

end LaneRise

theorem State.riseOnRecord_of_running {d : Dest} {r : Transfer} (running : r.state = .running) :
    s.riseOnRecord d r = s.endArrival d r := by
  rw [State.riseOnRecord, running]

theorem State.endArrival_outlet {lane : Lane} {r : Transfer} (own : r.lane = some lane) :
    s.endArrival .outlet r = ((s.setRecord .outlet none).laneArrival lane r).tellSource r := by
  simp only [State.endArrival, State.handTin, own]

/-- Settles O43, sensor by sensor. -/
theorem lidderAndLaneSensors : Obligations.LidderAndLaneSensors := by
  refine ⟨fun s working => ?lidder, fun s lane working => ?lanes⟩
  case lidder =>
    have rise : exec .lidderPresenceRise s = .next s.lidderRise.finish :=
      State.command_of_working working State.lidderRise
    have fall : exec .lidderPresenceFall s = .next ((s.modLidder fun l => { l with present := false }).whenLidder
        .clearing State.liftLidder).finish := by
      change execLidderPresenceFall s = _
      rw [execLidderPresenceFall, State.command_of_working working]
    have record : (s.modLidder fun l => { l with present := true }).record .lidder = s.record .lidder := rfl
    refine ⟨fun unrecorded => ?recorded, fun t kept other => ?arrived, fun other => ?falls, fun t clearing tin =>
      ?lifted⟩
    case recorded =>
      rw [rise, State.lidderRise]
      simp only [record, unrecorded]
      rfl
    case arrived =>
      rw [rise, State.lidderRise]
      simp only [record, kept, State.riseOnRecord_of_other other]
      rfl
    case falls =>
      rw [fall]
      exact congrArg (fun u : State => Host.Outcome.next u.finish) (State.whenLidder_of_other
        (s := s.modLidder fun l => { l with present := false }) other _)
    case lifted =>
      have lift : (s.modLidder fun l => { l with present := false }).whenLidder .clearing State.liftLidder =
          (s.modLidder fun l => { l with present := false }).liftLidder :=
        State.whenLidder_of_state (s := s.modLidder fun l => { l with present := false }) clearing _
      rw [fall, lift, State.liftLidder]
      simp only [State.modLidder, tin]
  case lanes =>
    have rise : exec (.lanePresenceRise lane) s = .next (s.laneRise lane).finish :=
      State.command_of_working working (State.laneRise lane)
    have fall : exec (.lanePresenceFall lane) s = .next (s.laneFall lane).finish :=
      State.command_of_working working (State.laneFall lane)
    refine ⟨fun other => ?elsewhere, fun t kept own => ⟨fun running => ?arrives, fun other => ?noted⟩,
      fun free => ?free, fun t o collect tin live unended => ?collected, fun t check tin unslotted => ?checked,
      fun t clearing tin => ?cleared⟩
    case elsewhere => rw [rise, State.laneRise_of_other other]
    case arrives =>
      rw [rise, State.laneRise_of_record kept own, State.riseOnRecord_of_running running,
        State.endArrival_outlet own]
    case noted => rw [rise, State.laneRise_of_record kept own, State.riseOnRecord_of_other other]
    case free => rw [fall, State.laneFall_of_free free]
    case collected =>
      have standing : (s.modLane lane fun l => { l with present := false }).order? t.order = some o := live
      rw [fall, State.laneFall_of_collect collect tin, State.collect_of_unended standing unended]
    case checked =>
      rw [fall, State.laneFall_of_check check tin, State.liftCheck]
      exact congrArg (fun u : State => Host.Outcome.next u.finish) (if_neg unslotted)
    case cleared => rw [fall, State.laneFall_of_clearing clearing tin]

end Sys2Proof.Machine
end

section
/-! Strokes of a phase (O56), the moves of the carousel (O47), its homing and the home mark (O48). -/

namespace Sys2Proof.Machine

/-! ## Strokes -/

theorem ceilDiv_eq {r c : Nat} (positive : 0 < c) : ceilDiv r c = (r + c - 1) / c := by
  have parts := Nat.div_add_mod r c
  have small := Nat.mod_lt r positive
  rw [ceilDiv]
  by_cases whole : r % c = 0
  · rw [if_pos whole, add_zero]
    exact (Nat.div_eq_of_lt_le (by rw [Nat.mul_comm]; omega) (by rw [Nat.succ_mul, Nat.mul_comm]; omega)).symm
  · rw [if_neg whole]
    exact (Nat.div_eq_of_lt_le (by rw [Nat.succ_mul, Nat.mul_comm]; omega)
      (by rw [Nat.succ_mul, Nat.succ_mul, Nat.mul_comm]; omega)).symm

theorem le_ceilDiv_mul {r c : Nat} (positive : 0 < c) : r ≤ ceilDiv r c * c := by
  have parts := Nat.div_add_mod r c
  have small := Nat.mod_lt r positive
  rw [ceilDiv]
  by_cases whole : r % c = 0
  · rw [if_pos whole, add_zero, Nat.mul_comm]
    omega
  · rw [if_neg whole, Nat.succ_mul, Nat.mul_comm]
    omega

theorem ceilDiv_bounds {r c : Nat} (some_steps : 0 < r) (positive : 0 < c) : 0 < ceilDiv r c ∧ ceilDiv r c ≤ r := by
  rw [ceilDiv_eq positive]
  refine ⟨Nat.div_pos (by omega) positive, Nat.lt_succ_iff.1 ((Nat.div_lt_iff_lt_mul positive).2 ?_)⟩
  have grows : r ≤ r * c := Nat.le_mul_of_pos_right r positive
  rw [Nat.succ_mul]
  omega

/-- The shares of r by k: r % k of them one above the quotient, the rest the quotient. -/
theorem strokesOf_eq {r c : Nat} (some_steps : 0 < r) (positive : 0 < c) :
    strokesOf r c = List.replicate (r % ceilDiv r c) (r / ceilDiv r c + 1) ++
      List.replicate (ceilDiv r c - r % ceilDiv r c) (r / ceilDiv r c) := by
  have extra : r - ceilDiv r c * (r / ceilDiv r c) = r % ceilDiv r c := by
    have parts := Nat.div_add_mod r (ceilDiv r c)
    omega
  rw [strokesOf, if_neg (by omega)]
  simp only [if_neg (by omega : ¬ c = 0), extra]

theorem strokesOf_zero (c : Nat) : strokesOf 0 c = [] := if_pos rfl

/-- Settles O56, by the shares of a quotient and its remainder. -/
theorem strokesDivideTheSteps : Obligations.StrokesDivideTheSteps := by
  intro r c positive
  rcases Nat.eq_zero_or_pos r with rfl | some_steps
  · rw [strokesOf_zero]
    exact ⟨(Nat.div_eq_of_lt (by omega)).symm, rfl, by simp, List.Pairwise.nil⟩
  obtain ⟨any, most⟩ := ceilDiv_bounds some_steps positive
  have fits := le_ceilDiv_mul (r := r) positive
  rw [strokesOf_eq some_steps positive, ← ceilDiv_eq positive]
  generalize ceilDiv r c = k at *
  have parts := Nat.div_add_mod r k
  have extra := Nat.mod_lt r any
  have whole : 1 ≤ r / k := Nat.div_pos most any
  have share : r / k ≤ c := Nat.div_le_of_le_mul fits
  have longer : 0 < r % k → r / k + 1 ≤ c := fun left =>
    (Nat.div_lt_iff_lt_mul any).2 (lt_of_le_of_ne (by rwa [Nat.mul_comm c k]) fun exact_fit => by
      rw [exact_fit, Nat.mul_mod_left] at left
      exact absurd left (lt_irrefl 0))
  generalize r / k = w at *
  generalize r % k = x at *
  refine ⟨?count, ?total, ?each, ?order⟩
  case count => rw [List.length_append, List.length_replicate, List.length_replicate]; omega
  case total =>
    obtain ⟨y, rfl⟩ := Nat.exists_eq_add_of_lt extra
    rw [List.sum_append, List.sum_replicate, List.sum_replicate, smul_eq_mul, smul_eq_mul, ← parts,
      show x + y + 1 - x = y + 1 by omega]
    ring
  case each =>
    intro n share_of
    rcases List.mem_append.1 share_of with long | short
    · obtain ⟨left, rfl⟩ := List.mem_replicate.1 long
      exact ⟨by omega, longer (Nat.pos_of_ne_zero left)⟩
    · obtain ⟨-, rfl⟩ := List.mem_replicate.1 short
      exact ⟨whole, share⟩
  case order =>
    refine List.pairwise_append.2 ⟨List.pairwise_replicate.2 (.inr ⟨le_rfl, by omega⟩),
      List.pairwise_replicate.2 (.inr ⟨le_rfl, by omega⟩), fun a long b short => ?_⟩
    obtain ⟨-, rfl⟩ := List.mem_replicate.1 long
    obtain ⟨-, rfl⟩ := List.mem_replicate.1 short
    omega

/-! ## Moves of the carousel -/

/-- The signed way from one position to another, at most 12 places either way (R55). -/
def shorterWay (a b : Position) : Int :=
  if 12 < (b.val : Int) - a.val then b.val - a.val - 24
  else if (b.val : Int) - a.val < -12 then b.val - a.val + 24 else b.val - a.val

theorem shorterWay_bounds {a b : Position} (other : a ≠ b) :
    -12 ≤ shorterWay a b ∧ shorterWay a b ≤ 12 ∧ shorterWay a b ≠ 0 ∧ ((b.val : Int) - a.val = shorterWay a b ∨
      (b.val : Int) - a.val = shorterWay a b + 24 ∨ (b.val : Int) - a.val = shorterWay a b - 24) := by
  have apart : a.val ≠ b.val := fun same => other (Fin.ext same)
  have := a.isLt
  have := b.isLt
  unfold shorterWay
  split_ifs <;> omega

theorem moveRecord_eq (a b : Position) :
    moveRecord a b = { origin := a, target := b
                       direction := if decide (0 < shorterWay a b) || decide (shorterWay a b = -12) then .forward
                                    else .backward
                       places := (shorterWay a b).natAbs
                       expected := if decide (0 < shorterWay a b) || decide (shorterWay a b = -12) then
                                     if 23 < a.val + (shorterWay a b).natAbs then 1 else 0
                                   else if a.val < (shorterWay a b).natAbs then 1 else 0
                       passes := 0 } := rfl

theorem moveRecord_shorter {a b : Position} (other : a ≠ b) :
    (moveRecord a b).origin = a ∧ (moveRecord a b).target = b ∧ (moveRecord a b).passes = 0 ∧
    1 ≤ (moveRecord a b).places ∧ (moveRecord a b).places ≤ 12 ∧
    (moveRecord a b).counted (moveRecord a b).places = b ∧
    ((moveRecord a b).places = 12 → (moveRecord a b).direction = .forward) ∧
    (moveRecord a b).expected = (if (moveRecord a b).direction = .forward
      then if a.val < b.val then 0 else 1 else if b.val < a.val then 0 else 1) := by
  obtain ⟨least, most, moves, turns⟩ := shorterWay_bounds other
  have := a.isLt
  have := b.isLt
  rw [moveRecord_eq]
  by_cases forward : 0 < shorterWay a b ∨ shorterWay a b = -12
  · have way : (decide (0 < shorterWay a b) || decide (shorterWay a b = -12)) = true := by simpa using forward
    simp only [way, if_true]
    refine ⟨trivial, trivial, trivial, by omega, by omega, Fin.ext ?reached, fun _ => trivial, ?passes⟩
    case reached =>
      simp only [MoveRecord.counted, min_self]
      omega
    case passes => split_ifs <;> omega
  · have way : (decide (0 < shorterWay a b) || decide (shorterWay a b = -12)) = false := by simpa using forward
    simp only [way, Bool.false_eq_true, if_false, reduceCtorEq]
    refine ⟨trivial, trivial, trivial, by omega, by omega, Fin.ext ?reachedBack, fun half => by omega, ?passesBack⟩
    case reachedBack =>
      simp only [MoveRecord.counted, min_self]
      omega
    case passesBack => split_ifs <;> omega

section Move

variable {s : State} {m : MoveRecord}

theorem State.moveResult_of_arrival (awaits : s.awaitsMove = true) (p : Positioner) :
    ({ s with positioner := p } : State).moveResult true = ({ s with positioner := p } : State).beginPhase :=
  (if_pos awaits).trans (if_pos rfl)

theorem State.moveResult_of_loss (awaits : s.awaitsMove = true) (p : Positioner) :
    ({ s with positioner := p } : State).moveResult false =
      ({ s with positioner := p } : State).fault .lost s.curIndex .none :=
  (if_pos awaits).trans (if_neg Bool.false_ne_true)

theorem State.moveResult_of_unawaited (unawaited : s.awaitsMove = false) (p : Positioner) (arrived : Bool) :
    ({ s with positioner := p } : State).moveResult arrived = { s with positioner := p } :=
  if_neg (fun awaits : s.awaitsMove = true => Bool.false_ne_true (unawaited.symm.trans awaits))

theorem State.moveArrived_of_expected (move : s.positioner.move = some m) (expected : m.passes = m.expected) :
    s.moveArrived = ({ s with positioner := { s.positioner with
      state := .homed, position := m.target, move := none, onMark := false } } : State).moveResult true := by
  have passed : (m.passes == m.expected) = true := beq_iff_eq.2 expected
  simp only [State.moveArrived, move, passed, if_true]

theorem State.moveArrived_of_unexpected (move : s.positioner.move = some m) (unexpected : m.passes ≠ m.expected) :
    s.moveArrived = ({ s with positioner := { s.positioner with
      state := .lost, position := m.target, move := none, onMark := false } } : State).moveResult false := by
  have passed : (m.passes == m.expected) = false := beq_false_of_ne unexpected
  simp only [State.moveArrived, move, passed, Bool.false_eq_true, if_false]

theorem State.moveExpires_of_moving (moving : s.positioner.state = .moving) (move : s.positioner.move = some m)
    (k : Nat) :
    s.moveExpires k = ({ s with positioner := { s.positioner with
      state := .lost, position := m.counted k, move := none } } : State).moveResult false := by
  have cut : s.positioner.cutMove k = { s.positioner with
      state := .lost, position := m.counted k, move := none } := by
    simp only [Positioner.cutMove, move]
  rw [State.moveExpires, if_pos moving, cut]

end Move

/-- Settles O47, by the shorter way between two positions and the passes of the home mark. -/
theorem movesTakeTheShorterWay : Obligations.MovesTakeTheShorterWay := by
  refine ⟨fun a b => moveRecord_shorter, fun s m working move => ?ends, fun s m k working moving move within awaits =>
    ?expires⟩
  case ends =>
    have row : exec .moveArrived s = .next s.moveArrived.finish := State.command_of_working working State.moveArrived
    refine ⟨fun expected unawaited => ?passive, fun expected awaits => ?active, fun unexpected awaits => ?lost⟩
    case passive =>
      rw [row, State.moveArrived_of_expected move expected, State.moveResult_of_unawaited unawaited]
    case active =>
      rw [row, State.moveArrived_of_expected move expected, State.moveResult_of_arrival awaits]
    case lost =>
      rw [row, State.moveArrived_of_unexpected move unexpected, State.moveResult_of_loss awaits]
  case expires =>
    refine (State.command_of_working working (State.moveExpires k)).trans ?_
    rw [State.moveExpires_of_moving moving move, State.moveResult_of_loss awaits]

/-! ## Homing and the home mark -/

section Homing

variable {s : State}

theorem Positioner.pass_of_moving {p : Positioner} {r : MoveRecord} (moving : p.state = .moving)
    (move : p.move = some r) : p.pass = { p with move := some { r with passes := r.passes + 1 } } := by
  simp only [Positioner.pass, moving, move, Option.map_some]

theorem Positioner.pass_of_lost {p : Positioner} (lost : p.state ∈ [PositionerState.unhomed, .lost, .failed]) :
    p.pass = p := by
  simp only [List.mem_cons, List.not_mem_nil, or_false] at lost
  rcases lost with state | state | state <;> simp only [Positioner.pass, state]

/-- A pass of the mark that cuts no stroke off changes the positioner alone (R57). -/
theorem State.homePass_of_uncut (uncut : ¬ (s.positioner.state = .homed ∧ s.station.state = .stroking))
    (onMark : Bool) (count : Option Nat) :
    s.homePass onMark count = { s with positioner := { s.positioner.pass with onMark := onMark } } :=
  if_neg uncut

theorem State.homingDone_of_homing (homing : s.positioner.state = .homing) :
    s.homingDone = ({ s with positioner := { s.positioner with onMark := false } } : State).homed :=
  if_pos homing

theorem State.stationHomed_of_unasked (unasked : s.station.awaitHoming = false) (ok : Bool) :
    s.stationHomed ok = s := by
  simp only [State.stationHomed, unasked, Bool.false_eq_true, if_false]

/-- A homing that only the line mode unit waits for begins RUNNING (R145). -/
theorem State.homingEnds_of_run (run : s.line.pendingMode = some .run) (unasked : s.station.awaitHoming = false)
    (p : Positioner) (ok : Bool) :
    ({ s with positioner := p } : State).homingEnds ok =
      ({ s with positioner := p } : State).setMode .running none := by
  have still : (({ s with positioner := p } : State).setMode .running none).station.awaitHoming = false := by
    rw [State.setMode_eq]
    exact unasked
  rw [State.homingEnds]
  exact (congrArg (State.stationHomed · ok) (if_pos run)).trans (State.stationHomed_of_unasked still ok)

theorem State.homingEnds_of_unasked (none_waits : s.line.pendingMode ≠ some .run)
    (unasked : s.station.awaitHoming = false) (p : Positioner) (ok : Bool) :
    ({ s with positioner := p } : State).homingEnds ok = { s with positioner := p } := by
  rw [State.homingEnds]
  exact (congrArg (State.stationHomed · ok) (if_neg none_waits)).trans
    (State.stationHomed_of_unasked (s := { s with positioner := p }) unasked ok)

end Homing

/-- Settles O48, by the carousel's state. -/
theorem homingAndTheHomeMark : Obligations.HomingAndTheHomeMark := by
  refine ⟨fun s m k working => ?passes, fun s working homing unasked => ?homes⟩
  case passes =>
    have row : exec (.homePass m k) s = .next (s.homePass m k).finish :=
      State.command_of_working working (State.homePass m k)
    refine ⟨fun r moving move => ?moving, fun homing => ?homing, fun homed idle => ?homed, fun lost => ?lost⟩
    case moving =>
      rw [row, State.homePass_of_uncut (by simp [moving]), Positioner.pass_of_moving moving move]
    case homing =>
      rw [row, State.homePass_of_uncut (by simp [homing])]
      simp only [Positioner.pass, homing]
    case homed =>
      rw [row, State.homePass_of_uncut (by simp [idle])]
      simp only [Positioner.pass, homed]
    case lost =>
      have away : s.positioner.state ≠ .homed := fun homed => by simp [homed] at lost
      rw [row, State.homePass_of_uncut (by simp [away]), Positioner.pass_of_lost lost]
  case homes =>
    have done : exec .homingComplete s = .next s.homingDone.finish :=
      State.command_of_working working State.homingDone
    have late : exec .homingTimeout s = .next s.homingExpires.finish :=
      State.command_of_working working State.homingExpires
    refine ⟨fun none_waits => ?still, fun run paused => ?runs, fun unseen none_waits => ?failed, fun seen => ?ignored⟩
    case still =>
      rw [done, State.homingDone_of_homing homing, State.homed]
      exact congrArg (fun u : State => Host.Outcome.next u.finish)
        (State.homingEnds_of_unasked none_waits unasked _ true)
    case runs =>
      have runs := State.homingEnds_of_run run unasked { s.positioner with
        state := .homed, position := 0, move := none, markSeen := false, onMark := false } true
      rw [State.setMode_of_ne (by simp [paused])] at runs
      rw [done, State.homingDone_of_homing homing, State.homed]
      exact congrArg (fun u : State => Host.Outcome.next u.finish) runs
    case failed =>
      rw [late, State.homingExpires, if_pos ⟨homing, by simp [unseen]⟩,
        State.homingEnds_of_unasked none_waits unasked]
    case ignored => rw [late, State.homingExpires, if_neg (by simp [seen])]

end Sys2Proof.Machine
end
section
/-! The weigh cell and what its reading becomes (O45), and the station's presence sensor (O44). -/

namespace Sys2Proof.Machine

variable {s : State}

/-! ## The reading handed to the station -/

section Tare

variable {o : Order}

theorem State.planTin_of_error {f : PlanFailure} (live : s.order? s.served = some o)
    (fails : s.activePlan o = .error f) :
    s.planTin = s.drawnInMotion.planFault f := by
  simp only [State.planTin, live, fails]

/-- The plan stands: it is taken, the partial plan given up, and its first entry served (R69, R76). -/
theorem State.planTin_of_plan {q : PlanContext} (live : s.order? s.served = some o) (builds : s.activePlan o = .ok q) :
    s.planTin = (({ s.drawnInMotion with station := { s.station with plan := some q } } : State).modOrder s.served
      fun o => { o with
        partialPlan := none, flags := { o.flags with clamped := o.flags.clamped || q.anyClamped } }).serveNext := by
  have station : s.drawnInMotion.station = s.station := by rw [State.drawnInMotion_eq]
  have served : (s.drawnInMotion.modStation fun st => { st with plan := some q }).served = s.served := by
    rw [State.served, State.modStation_station, station, State.served]
  simp only [State.planTin, live, builds, served]
  rw [State.modStation, station]

theorem State.planFault_drawn (f : PlanFailure) :
    s.drawnInMotion.planFault f =
      ({ s.drawnInMotion with station := { s.station with plan := none } } : State).fault .plan none f.detail := by
  have station : s.drawnInMotion.station = s.station := by rw [State.drawnInMotion_eq]
  rw [State.planFault, State.modStation, station]

theorem State.activePlan_of_plan {q : PlanContext} (plan : s.station.plan = some q) :
    s.activePlan o = s.remakePlan o q s.shownPosition := by
  simp only [State.activePlan, plan]

theorem State.activePlan_of_partial {q : PlanContext} (plan : s.station.plan = none) (kept : o.partialPlan = some q) :
    s.activePlan o = s.takeUp o q s.shownPosition := by
  simp only [State.activePlan, plan, kept]

theorem State.activePlan_of_new (plan : s.station.plan = none) (kept : o.partialPlan = none) :
    s.activePlan o = s.newPlan o s.shownPosition := by
  simp only [State.activePlan, plan, kept]

theorem State.newPlan_of_tooLarge {p : Position} {i : Nat}
    (large : s.buildPlan o.number o.currentRound o.scale o.currentLines o.available p = .error i) :
    s.newPlan o p = .error (.tooLarge i) := by
  simp only [State.newPlan, large]

theorem State.newPlan_of_built {p : Position} {q : PlanContext}
    (built : s.buildPlan o.number o.currentRound o.scale o.currentLines o.available p = .ok q) :
    s.newPlan o p = if q.fits then .ok q else .error (.overSum q.sum q.available) := by
  simp only [State.newPlan, built]

end Tare

/-- The reading before an automatic phase is kept and the phase's strokes are checked (R78, R101). -/
theorem State.phaseReading_of_automatic {c : CurrentEntry} {t : TinContext} (cur : s.station.cur = some c)
    (tin : s.station.tin = some t) (automatic : c.phase ≠ .manual) (r : Option Nat) :
    s.phaseReading r = ({ s with station := { s.station with
      freshNeeded := false
      tin := some { t with
        last := if r.isSome then r else t.last
        entryStart := if c.phase = .topup then t.entryStart else r }
      cur := some { c with start := r } } } : State).strokeCheck := by
  by_cases topup : c.phase = .topup
  all_goals
    cases r <;>
    simp [State.phaseReading, State.keepReading, State.startPhase, State.modTin, State.modCur, State.modStation, cur,
      tin, automatic, topup]

/-! ## Samples -/

theorem WeighCell.open_iff {w : WeighCell} : w.open = true ↔ w.settling = true ∧ w.span.length < 16 := by
  rw [WeighCell.open, Bool.and_eq_true, decide_eq_true_eq]
  exact Iff.rfl

theorem withinBand_iff {a b : Nat} : withinBand a b = true ↔ a ≤ b + 20 ∧ b ≤ a + 20 := by
  rw [withinBand, Bool.and_eq_true, decide_eq_true_eq, decide_eq_true_eq]
  exact Iff.rfl

theorem exec_weighSample (working : s.supply.warned = false) (m : Nat) (out : Bool) :
    exec (.weighSample m out) s = .next ({ s with weigh := s.weigh.sample m out } : State).finish := by
  change execWeighSample m out s = _
  rw [execWeighSample, State.command_of_working working]

theorem WeighCell.invalid_iff {w : WeighCell} {m : Nat} {out : Bool} :
    w.invalid m out = true ↔ out = true ∨ w.fault = true ∨ 30000000 < m := by
  rw [WeighCell.invalid, Bool.or_eq_true, Bool.or_eq_true, decide_eq_true_eq, or_assoc, or_comm (b := w.fault = true)]
  exact Iff.rfl

theorem WeighCell.sample_of_valid {w : WeighCell} {m : Nat} (opened : w.open = true) (sound : w.fault = false)
    (bounded : m ≤ 30000000) : w.sample m false = { w with span := m :: w.span.takeWhile (withinBand m) } := by
  have valid : ¬ w.invalid m false = true := by
    rw [WeighCell.invalid_iff, sound]
    simp [bounded]
  rw [WeighCell.sample, if_pos opened, if_neg valid, addSample]

theorem WeighCell.sample_of_invalid {w : WeighCell} {m : Nat} {out : Bool} (opened : w.open = true)
    (invalid : out = true ∨ w.fault = true ∨ 30000000 < m) : w.sample m out = { w with span := [] } := by
  rw [WeighCell.sample, if_pos opened, if_pos (WeighCell.invalid_iff.2 invalid)]

theorem WeighCell.sample_of_idle {w : WeighCell} (idle : w.settling = false) (m : Nat) (out : Bool) :
    w.sample m out = w := by
  rw [WeighCell.sample, WeighCell.open, idle]
  rfl

/-- The stable span splits into the samples within the band and those that go, the first of which lies outside
(R99). -/
theorem span_split (span : List Nat) (m : Nat) :
    span = span.takeWhile (withinBand m) ++ span.dropWhile (withinBand m) ∧
    (∀ x ∈ span.takeWhile (withinBand m), x ≤ m + 20 ∧ m ≤ x + 20) ∧
    (∀ x, (span.dropWhile (withinBand m)).head? = some x → m + 20 < x ∨ x + 20 < m) := by
  refine ⟨List.takeWhile_append_dropWhile.symm, fun x kept => (withinBand_iff.1 (List.mem_takeWhile_imp kept)).symm,
    fun x first => ?_⟩
  have off := List.head?_dropWhile_not (withinBand m) span
  rw [first] at off
  have outside : ¬ (m ≤ x + 20 ∧ x ≤ m + 20) := by
    rw [← withinBand_iff]
    simpa using off
  omega

/-! ## The end of a settle -/

theorem settledValue_of_full {span : List Nat} (full : span.length = 16) :
    settledValue span = 10 * ((2 * span.sum + 160) / 320) := by
  rw [settledValue, full, halfUp_eq_div _ (by decide), Nat.mul_comm]

theorem State.settleReading_of_full (settling : s.weigh.settling = true) (full : s.weigh.span.length = 16) :
    s.settleReading = ({ s with weigh := { s.weigh with
      settling := false, span := [], last := some (settledValue s.weigh.span) } } : State).handReading
        (some (settledValue s.weigh.span)) :=
  if_pos ⟨settling, full⟩

/-- Settles O45: the readings by the purpose of the settle, then the samples and the ends of a settle. -/
theorem weighCellSettles : Obligations.WeighCellSettles := by
  refine ⟨fun s u r o tare taken live => ?tare, fun s r verdict => ?verdict,
    fun s r c t phaseStart cur tin automatic => ?phase, fun s m out working => ?samples,
    fun s working settling full => ?reading, fun s working settling short => ?absent, fun s working => ?line⟩
  case tare =>
    have hands : s.handReading r = u.planTin := by
      rw [State.handReading, tare, taken]
      rfl
    have plan : u.station.plan = s.station.plan := by
      rw [taken, State.modStation_station, State.changeOrder_eq]
    refine ⟨fun f fails => ?fails, fun q builds => ?builds, fun q remade => ?remade, fun q none_stands kept => ?takenUp,
      fun none_stands none_kept => ⟨fun i large => ?large, fun q built => ⟨fun fits => ?fits, fun excess => ?excess⟩⟩⟩
    case fails => rw [hands, State.planTin_of_error live fails, State.planFault_drawn]
    case builds => rw [hands, State.planTin_of_plan live builds, PlanContext.anyClamped]
    case remade => exact State.activePlan_of_plan (plan.trans remade)
    case takenUp => exact State.activePlan_of_partial (plan.trans none_stands) kept
    case large =>
      rw [State.activePlan_of_new (plan.trans none_stands) none_kept, State.newPlan_of_tooLarge large]
    case fits =>
      rw [State.activePlan_of_new (plan.trans none_stands) none_kept, State.newPlan_of_built built,
        if_pos (by simp [PlanContext.fits, fits])]
    case excess =>
      rw [State.activePlan_of_new (plan.trans none_stands) none_kept, State.newPlan_of_built built,
        if_neg (by simp [PlanContext.fits, excess])]
  case verdict => rw [State.handReading, verdict]
  case phase => rw [State.handReading, phaseStart, State.phaseReading_of_automatic cur tin automatic]
  case samples =>
    refine ⟨fun settling short inRange sound bounded => ?valid, fun settling short invalid => ?invalid,
      fun idle => ?idle⟩
    case valid =>
      obtain ⟨whole, near, far⟩ := span_split s.weigh.span m
      refine ⟨_, _, whole, near, far, ?_⟩
      rw [exec_weighSample working, inRange,
        WeighCell.sample_of_valid (WeighCell.open_iff.2 ⟨settling, short⟩) sound bounded]
    case invalid =>
      rw [exec_weighSample working, WeighCell.sample_of_invalid (WeighCell.open_iff.2 ⟨settling, short⟩) invalid]
    case idle => rw [exec_weighSample working, WeighCell.sample_of_idle idle]
  case reading =>
    refine ⟨settledValue s.weigh.span, settledValue_of_full full, ?_⟩
    refine (State.command_of_working working State.settleReading).trans ?_
    rw [State.settleReading_of_full settling full]
  case absent =>
    have opened : s.weigh.open = true := WeighCell.open_iff.2 ⟨settling, short⟩
    refine ⟨?early, ?window, ?fault⟩
    case early =>
      refine (State.command_of_working working State.settleReading).trans ?_
      rw [State.settleReading, if_neg (by simp [Config.settleSamples, short.ne])]
    case window =>
      change execSettleWindowTimeout s = _
      rw [execSettleWindowTimeout, State.command_of_working working, if_pos opened]
      rfl
    case fault =>
      refine (State.command_of_working working (State.scaleFault true)).trans ?_
      exact congrArg (fun u : State => Host.Outcome.next u.finish) (if_pos opened)
  case line => exact State.command_of_working working (State.scaleFault false)

/-! ## The station's presence sensor -/

theorem State.endArrival_dispense (t : Transfer) :
    s.endArrival .dispense t = (s.setRecord .dispense none).stationArrival.tellSource t := rfl

section Remake

variable {o : Order} (live : s.order? s.served = some o)

include live

theorem State.placeRemake_of_lidded (lidded : s.station.lid = true) :
    s.placeRemake = s.notify (.liddedTin .dispense) := by
  simp only [State.placeRemake, live, lidded, if_true]

theorem State.placeRemake_of_otherClass (bare : s.station.lid = false) (other : s.station.size ≠ o.cls) :
    s.placeRemake = s.notify (.noOrderForTin .dispense s.station.size) := by
  simp only [State.placeRemake, live, bare, other, Bool.false_eq_true, if_false, ne_eq, not_false_eq_true, if_true]

/-- The fresh tin of a remake: a new id and a tare of its own (R71, R96). -/
theorem State.placeRemake_of_own (bare : s.station.lid = false) (own : s.station.size = o.cls) :
    s.placeRemake = ((s.assignTin o.number).modStation fun st => { st with
      freshNeeded := true
      tin := some { id := s.book.nextTin, cls := o.cls, tare := none, last := none, entryStart := none,
                    lid := false } }).settleTare := by
  have lid : (s.assignTin o.number).station.lid = false := bare
  simp only [State.placeRemake, live, bare, own, Bool.false_eq_true, if_false, ne_eq, not_true_eq_false,
    State.modStation, lid]

end Remake

/-- The station's sensors as a rise reads them. -/
def State.sensed (s : State) (cls : TinClass) (lid : Bool) : State :=
  { s with station := { s.station with size := cls, lid := lid, present := true } }

section Rise

variable {cls : TinClass} {lid : Bool}

theorem State.sensed_eq (s : State) (cls : TinClass) (lid : Bool) :
    (s.readTin cls lid).modStation (fun st => { st with present := true }) = s.sensed cls lid := rfl

theorem State.stationRise_of_record {t : Transfer} (record : s.record .dispense = some t) :
    s.stationRise cls lid = (s.sensed cls lid).riseOnRecord .dispense t := by
  have still : (s.sensed cls lid).record .dispense = some t := record
  simp only [State.stationRise, State.sensed_eq, still]

section Unrecorded

variable (unrecorded : s.record .dispense = none)

include unrecorded

theorem State.stationRise_of_receiving (receiving : s.station.state = .receiving)
    (waits : s.station.arrivalWaits = true) : s.stationRise cls lid = (s.sensed cls lid).stationArrival := by
  have still : (s.sensed cls lid).record .dispense = none := unrecorded
  have state : (s.sensed cls lid).station.state = .receiving := receiving
  have arrival : (s.sensed cls lid).station.arrivalWaits = true := waits
  simp only [State.stationRise, State.sensed_eq, still, state, arrival, if_true]

theorem State.stationRise_of_remake (remake : s.station.state = .awaitRemakeTin) :
    s.stationRise cls lid = (s.sensed cls lid).placeRemake := by
  have still : (s.sensed cls lid).record .dispense = none := unrecorded
  have state : (s.sensed cls lid).station.state = .awaitRemakeTin := remake
  simp only [State.stationRise, State.sensed_eq, still, state]

theorem State.stationRise_of_other (away : s.station.state ≠ .awaitRemakeTin)
    (settled : s.station.state = .receiving → s.station.arrivalWaits = false) :
    s.stationRise cls lid = s.sensed cls lid := by
  have still : (s.sensed cls lid).record .dispense = none := unrecorded
  simp only [State.stationRise, State.sensed_eq, still]
  split
  · next receiving =>
    have still : (s.sensed cls lid).station.arrivalWaits = false := settled receiving
    exact if_neg (by simp [still])
  · next remake => exact absurd remake away
  · rfl

end Unrecorded

end Rise

theorem State.liftCleared_of_order {n : Nat} (order : s.station.order = some n) :
    s.liftCleared = (s.reportLift n).modStation fun st => { st with
      state := .idle, order := none, tin := none, plan := none, cur := none, gentle := false
      freshNeeded := false } := by
  simp only [State.liftCleared, order]

/-- Settles O44, by the record, the station's state and the tin. -/
theorem stationSensesItsTin : Obligations.StationSensesItsTin := by
  refine ⟨fun s u cls lid working sensed => ?rise, fun s u working fallen => ?fall⟩
  case rise =>
    obtain rfl : u = s.sensed cls lid := sensed
    have row : exec (.dispensePresenceRise cls lid) s = .next (s.stationRise cls lid).finish :=
      State.command_of_working working (State.stationRise cls lid)
    refine ⟨fun t record running => ?arrives, fun t record other => ?noted, fun unrecorded receiving waits => ?waited,
      fun unrecorded away settled => ?read, fun o unrecorded remake live => ⟨fun lidded => ?lidded,
      fun bare other => ?otherClass, fun bare own => ?fresh⟩⟩
    case arrives =>
      rw [row, State.stationRise_of_record record, State.riseOnRecord_of_running running, State.endArrival_dispense]
    case noted => rw [row, State.stationRise_of_record record, State.riseOnRecord_of_other other]
    case waited => rw [row, State.stationRise_of_receiving unrecorded receiving waits]
    case read => rw [row, State.stationRise_of_other unrecorded away settled]
    case lidded =>
      rw [row, State.stationRise_of_remake unrecorded remake,
        State.placeRemake_of_lidded (s := s.sensed cls lid) live lidded]
    case otherClass =>
      rw [row, State.stationRise_of_remake unrecorded remake,
        State.placeRemake_of_otherClass (s := s.sensed cls lid) live bare other]
      rfl
    case fresh =>
      rw [row, State.stationRise_of_remake unrecorded remake,
        State.placeRemake_of_own (s := s.sensed cls lid) live bare own]
      rfl
  case fall =>
    have row : exec .dispensePresenceFall s = .next s.stationFall.finish :=
      State.command_of_working working State.stationFall
    have closed (idle : s.weigh.settling = false) : ¬ s.weigh.open = true := fun opened =>
      Bool.false_ne_true (idle.symm.trans (WeighCell.open_iff.1 opened).1)
    refine ⟨fun settling short => ?absent, fun idle other => ?read, fun n idle clearing order => ?lifted⟩
    case absent =>
      rw [row, fallen]
      exact congrArg (fun u : State => Host.Outcome.next u.finish)
        (if_pos (WeighCell.open_iff.2 ⟨settling, short⟩))
    case read =>
      rw [row, fallen]
      exact congrArg (fun u : State => Host.Outcome.next u.finish)
        ((if_neg (closed idle)).trans (if_neg other))
    case lifted =>
      have lift : u.liftCleared = (u.reportLift n).modStation fun st => { st with
          state := .idle, order := none, tin := none, plan := none, cur := none, gentle := false
          freshNeeded := false } := State.liftCleared_of_order (by rw [fallen]; exact order)
      rw [row, ← lift, fallen]
      exact congrArg (fun u : State => Host.Outcome.next u.finish)
        ((if_neg (closed idle)).trans (if_pos clearing))

end Sys2Proof.Machine
end

section
/-! The end of a stroke (O49) and the events that bring it about (O50). -/

namespace Sys2Proof.Machine

variable {s : State}

/-! ## The canister account of a stroke's end -/

theorem State.canister_modCanister (s : State) (p : Position) (f : Canister → Canister) :
    (s.modCanister p f).canisters[p] = f s.canisters[p] := Vector.getElem_set_self ..

theorem State.canister_modCanister_of_ne {p q : Position} (other : q ≠ p) (f : Canister → Canister) :
    (s.modCanister p f).canisters[q] = s.canisters[q] :=
  Vector.getElem_set_ne p.isLt q.isLt fun same => other (Fin.ext same.symm)

theorem State.debit_canister (s : State) (p : Position) (g : Nat) :
    (s.debit p g).canisters[p] = (s.canisters[p].debited g).disarmed := by
  rw [State.debit_eq]
  exact Vector.getElem_set_self ..

theorem State.debit_canister_of_ne {p q : Position} (other : q ≠ p) (g : Nat) :
    (s.debit p g).canisters[q] = s.canisters[q] := by
  rw [State.debit_eq]
  exact Vector.getElem_set_ne p.isLt q.isLt fun same => other (Fin.ext same.symm)

theorem State.debit_notices (s : State) (p : Position) (g : Nat) :
    (s.debit p g).notices = match (s.canisters[p].debited g).debitNotice p with
      | some b => queueNotice s.notices b
      | none => s.notices := by
  unfold State.debit
  dsimp only
  cases (s.canisters[p].debited g).debitNotice p <;> rfl

section Debited

variable {k : Canister} {g : Nat}

theorem Canister.isDry_debited : (k.debited g).isDry =
    decide (k.code ≠ 0 ∧ k.level - g * k.d - k.floor < k.m * k.d) := by
  rw [Bool.eq_iff_iff]
  rw [Canister.isDry, Bool.and_eq_true, decide_eq_true_eq, decide_eq_true_eq, Canister.configured, bne_iff_ne]
  exact Iff.rfl

theorem Canister.isLow_debited : (k.debited g).isLow =
    decide (k.code ≠ 0 ∧ k.level - g * k.d < k.low * 1000000) := by
  rw [Bool.eq_iff_iff]
  rw [Canister.isLow, Bool.and_eq_true, decide_eq_true_eq, decide_eq_true_eq, Canister.configured, bne_iff_ne]
  exact Iff.rfl

end Debited

section Notice

variable {k : Canister}

theorem Canister.disarmed_of_dry (dry : k.isDry = true ∧ k.dryArmed = true) :
    k.disarmed = { k with dryArmed := false, lowArmed := k.lowArmed && !k.isLow } :=
  if_pos (by simp [dry.1, dry.2])

theorem Canister.debitNotice_of_dry (dry : k.isDry = true ∧ k.dryArmed = true) (p : Position) :
    k.debitNotice p = some (.canisterDry 0 p k.code k.level k.usable none) :=
  if_pos (by simp [dry.1, dry.2])

variable (wet : ¬ (k.isDry = true ∧ k.dryArmed = true))

include wet

theorem Canister.disarmed_of_low (low : k.isLow = true ∧ k.lowArmed = true) :
    k.disarmed = { k with lowArmed := false } :=
  (if_neg (by simpa using wet)).trans (if_pos (by simp [low.1, low.2]))

theorem Canister.debitNotice_of_low (low : k.isLow = true ∧ k.lowArmed = true) (p : Position) :
    k.debitNotice p = some (.canisterLow p k.code k.level k.low) :=
  (if_neg (by simpa using wet)).trans (if_pos (by simp [low.1, low.2]))

theorem Canister.disarmed_of_neither (full : ¬ (k.isLow = true ∧ k.lowArmed = true)) : k.disarmed = k :=
  (if_neg (by simpa using wet)).trans (if_neg (by simpa using full))

theorem Canister.debitNotice_of_neither (full : ¬ (k.isLow = true ∧ k.lowArmed = true)) (p : Position) :
    k.debitNotice p = none :=
  (if_neg (by simpa using wet)).trans (if_neg (by simpa using full))

end Notice

/-! ## The records of a stroke's end -/

section Current

variable {c : CurrentEntry} {e : Entry} {q : PlanContext}

/-- The current entry is the one its record indexes in the plan that stands. -/
theorem State.current?_iff :
    s.current? = some (c, e) ↔ s.station.cur = some c ∧ ∃ q, s.station.plan = some q ∧
      q.entries[c.index]? = some e := by
  simp only [State.current?, State.entry?, Option.bind_eq_some_iff, Option.map_eq_some_iff, Prod.mk.injEq]
  constructor
  · rintro ⟨x, cur, y, ⟨q, plan, entry⟩, rfl, rfl⟩
    exact ⟨cur, q, plan, entry⟩
  · rintro ⟨cur, q, plan, entry⟩
    exact ⟨c, cur, e, ⟨q, plan, entry⟩, rfl, rfl⟩

/-- The delivered steps of the stroke in progress by its count (R81). -/
def CurrentEntry.given (c : CurrentEntry) (count : Option Nat) : Nat := strokeDelivered c.strokeSteps count

/-- The phase's record after a stroke's end (R81). -/
def CurrentEntry.stroked (c : CurrentEntry) (count : Option Nat) : CurrentEntry :=
  { c with
    ended := c.ended + 1, delivered := c.delivered + c.given count, counted := c.counted + count.getD 0
    countPresent := c.countPresent && count.isSome }

/-- The entry after a stroke's end that delivered g steps (R81). -/
def Entry.stroked (e : Entry) (g : Nat) : Entry :=
  { e with delivered := e.delivered + g, deliveredVolume := e.deliveredVolume + g * e.d }

/-- Every stroke end in one equation: the debit, and the entry and the phase with what was delivered (R81). -/
theorem State.endStroke_of_current {p : Position} (cur : s.station.cur = some c) (plan : s.station.plan = some q)
    (entry : q.entries[c.index]? = some e) (pos : e.pos = some p) (count : Option Nat) :
    s.endStroke count = { s.debit p (c.given count) with station := { s.station with
      plan := some { q with entries := q.entries.set c.index (e.stroked (c.given count)) }
      cur := some (c.stroked count) } } := by
  have current : s.current? = some (c, e) := State.current?_iff.2 ⟨cur, q, plan, entry⟩
  have station : (s.debit p (c.given count)).station = s.station := by rw [State.debit_eq]
  rw [State.endStroke, current]
  dsimp only
  rw [pos]
  dsimp only
  rw [← CurrentEntry.given, State.modEntry_of_entry (station.symm ▸ plan) entry, State.modCur, State.modStation]
  dsimp only
  rw [station, cur]
  rfl

/-- Settles O49, by what the debit leaves of the canister. -/
theorem strokeEndIsCountedAndDebited : Obligations.StrokeEndIsCountedAndDebited := by
  intro s count x e p g k v low dry current pos canister level isLow isDry counts
  obtain ⟨cur, q, plan, entry⟩ := State.current?_iff.1 current
  have given : x.given count = g := by
    rcases counts with ⟨n, rfl, rfl⟩ | ⟨rfl, rfl⟩ <;> rfl
  have ends := State.endStroke_of_current cur plan entry pos count
  have record : (s.endStroke count).canisters[p] = (k.debited g).disarmed := by
    rw [ends, given, canister]
    exact State.debit_canister s p g
  have notices : (s.endStroke count).notices = match (k.debited g).debitNotice p with
      | some b => queueNotice s.notices b
      | none => s.notices := by
    rw [ends, given, canister]
    exact State.debit_notices s p g
  have dries : (k.debited g).isDry = dry := by rw [Canister.isDry_debited, isDry, level]
  have lows : (k.debited g).isLow = low := by rw [Canister.isLow_debited, isLow, level]
  refine ⟨fun falls => ?dry, fun wet falls => ?low, fun wet full => ?neither, fun r other => ?others, ?current, ?book,
    ?positioner, ?station, ?lanes⟩
  case dry =>
    have falls : (k.debited g).isDry = true ∧ (k.debited g).dryArmed = true := by rwa [dries]
    rw [record, notices, Canister.disarmed_of_dry falls, Canister.debitNotice_of_dry falls, lows, level]
    exact ⟨rfl, rfl⟩
  case low =>
    have wet : ¬ ((k.debited g).isDry = true ∧ (k.debited g).dryArmed = true) := by rwa [dries]
    have falls : (k.debited g).isLow = true ∧ (k.debited g).lowArmed = true := by rwa [lows]
    rw [record, notices, Canister.disarmed_of_low wet falls, Canister.debitNotice_of_low wet falls, level]
    exact ⟨rfl, rfl⟩
  case neither =>
    have wet : ¬ ((k.debited g).isDry = true ∧ (k.debited g).dryArmed = true) := by rwa [dries]
    have full : ¬ ((k.debited g).isLow = true ∧ (k.debited g).lowArmed = true) := by rwa [lows]
    rw [record, notices, Canister.disarmed_of_neither wet full, Canister.debitNotice_of_neither wet full, level]
    exact ⟨rfl, rfl⟩
  case others =>
    rw [ends]
    exact State.debit_canister_of_ne other _
  case current =>
    have inside : x.index < q.entries.length := (List.getElem?_eq_some_iff.1 entry).1
    rw [ends, given]
    refine State.current?_iff.2 ⟨?_, _, rfl, List.getElem?_set_self inside⟩
    rw [CurrentEntry.stroked, given]
  all_goals rw [State.endStroke_eq]

end Current

/-! ## The events of a stroke -/

section Events

variable {c : CurrentEntry} {e : Entry} {o : Order} {count : Option Nat}

theorem State.pendingEndOf_of_live {n : Nat} (live : s.order? n = some o) : s.pendingEndOf n = o.pendingEnd := by
  rw [State.pendingEndOf, live, Option.bind_some]

/-- What a stroke's end leaves of the order served: its pending end, or none. -/
theorem State.endStroke_pendingEnd (s : State) (count : Option Nat) :
    (s.endStroke count).pendingEndOf (s.endStroke count).served = s.pendingEndOf s.served := by
  rw [State.endStroke_served, State.pendingEndOf, State.order?, State.endStroke_eq]
  rfl

/-- The order served has no end pending. -/
def State.Unended (s : State) : Prop := s.pendingEndOf s.served = none

theorem State.unended_of_live (live : s.order? s.served = some o) (unended : o.pendingEnd = none) : s.Unended :=
  (State.pendingEndOf_of_live live).trans unended

/-- A stroke halted for an order with no pending end: its entry PARTIAL and its fault raised (R81, R82). -/
theorem State.haltStroke_of_current (current : s.current? = some (c, e)) (unended : s.Unended) (k : FaultKind) :
    s.haltStroke count k =
      ((s.endStroke count).setEntry c.index .partialShot).fault k (some c.index) .none := by
  have index : (s.endStroke count).curIndex = some c.index :=
    (State.endStroke_curIndex s count).trans (State.curIndex_of_current current)
  obtain ⟨x, cur, same⟩ := Option.map_eq_some_iff.1 index
  have none_pending : ((s.endStroke count).setEntry x.index .partialShot).pendingEndOf
      ((s.endStroke count).setEntry x.index .partialShot).served = none :=
    (State.endStroke_pendingEnd s count).trans unended
  rw [State.haltStroke]
  dsimp only
  rw [cur]
  dsimp only
  rw [none_pending, Option.isSome_none, if_neg Bool.false_ne_true, same]

theorem CurrentEntry.shortStroke_iff :
    c.shortStroke count = true ↔ ∃ k, count = some k ∧ k < c.strokeSteps := by
  cases count <;> simp [CurrentEntry.shortStroke]

theorem CurrentEntry.strokeSteps_of_stroke {n : Nat} (stroke : c.strokes[c.ended]? = some n) : c.strokeSteps = n := by
  rw [CurrentEntry.strokeSteps, List.getD_eq_getElem?_getD, stroke, Option.getD_some]

section Pump

variable (stroking : s.station.state = .stroking) (current : s.current? = some (c, e)) (unended : s.Unended)

include stroking current unended

theorem State.pumpDone_of_current : s.pumpDone count =
    if c.shortStroke count || decide (c.strokes.length ≤ c.ended + 1) then (s.endStroke count).settleVerdict
    else (s.endStroke count).strokeCheck := by
  have none_pending := (State.endStroke_pendingEnd s count).trans unended
  rw [State.pumpDone, if_pos stroking, State.cur_of_current current]
  dsimp only
  rw [none_pending, Option.isSome_none, Bool.false_or]

theorem State.pumpDone_of_more {n : Nat} (stroke : c.strokes[c.ended]? = some n)
    (full : ∀ k, count = some k → n ≤ k) (more : c.ended + 1 < c.strokes.length) :
    s.pumpDone count = (s.endStroke count).strokeCheck := by
  have enough : c.shortStroke count = false := by
    rw [Bool.eq_false_iff, ne_eq, CurrentEntry.shortStroke_iff, CurrentEntry.strokeSteps_of_stroke stroke]
    exact fun ⟨k, given, short⟩ => absurd (full k given) (by omega)
  rw [State.pumpDone_of_current stroking current unended, enough, Bool.false_or, if_neg (by simp [more])]

theorem State.pumpDone_of_last (last : c.strokes.length = c.ended + 1) :
    s.pumpDone count = (s.endStroke count).settleVerdict := by
  rw [State.pumpDone_of_current stroking current unended, if_pos (by simp [last])]

theorem State.pumpDone_of_short {k n : Nat} (given : count = some k) (stroke : c.strokes[c.ended]? = some n)
    (short : k < n) : s.pumpDone count = (s.endStroke count).settleVerdict := by
  have cut : c.shortStroke count = true :=
    CurrentEntry.shortStroke_iff.2 ⟨k, given, by rwa [CurrentEntry.strokeSteps_of_stroke stroke]⟩
  rw [State.pumpDone_of_current stroking current unended, cut, Bool.true_or, if_pos rfl]

end Pump

section Switch

variable {p : Position}

theorem State.unseat_of_idle (idle : ¬ (s.station.state = .stroking ∧ s.canisters[p].drawing = true)) :
    s.unseat p count = if s.canisters[p].configured then
      (s.modCanister p fun c => { c with seated := false }).notify (.canisterUnseated 0 [p] s.canisters[p].code)
    else s.modCanister p fun c => { c with seated := false } := by
  rw [State.unseat]
  refine (if_neg ?_)
  split
  all_goals exact idle

theorem State.unseat_of_stroke (stroking : s.station.state = .stroking) (drawing : s.canisters[p].drawing = true)
    (configured : s.canisters[p].configured = true) :
    s.unseat p count = ((s.modCanister p fun c => { c with seated := false }).notify
      (.canisterUnseated 0 [p] s.canisters[p].code)).haltStroke count .unseated := by
  rw [State.unseat, if_pos configured]
  exact if_pos ⟨stroking, drawing⟩

theorem Canister.configured_of_code {k : Canister} (code : k.code ≠ 0) : k.configured = true := bne_iff_ne.2 code

theorem Canister.unconfigured_of_code {k : Canister} (code : k.code = 0) : ¬ k.configured = true :=
  fun configured => bne_iff_ne.1 configured code

theorem State.reseat_eq (s : State) (p : Position) :
    s.reseat p = if s.canisters[p].configured then
      (s.modCanister p fun c => { c with seated := true }).reportPosition p
    else s.modCanister p fun c => { c with seated := true } := by
  have same : ((s.modCanister p fun c => { c with seated := true }).canisters[p]).configured =
      s.canisters[p].configured := by
    rw [State.canister_modCanister]
    rfl
  rw [State.reseat, same]

theorem State.reportPosition_of_other (other : s.station.state ≠ .waitCanister) : s.reportPosition p = s :=
  if_neg fun both => other both.1

theorem State.reportPosition_of_waiting (waiting : s.station.state = .waitCanister)
    (current : s.current? = some (c, e)) (pos : e.pos = some p) : s.reportPosition p = s.recheck := by
  have awaited : (s.current?.bind fun x => x.2.pos) = some p := by rw [current, Option.bind_some, pos]
  exact if_pos ⟨waiting, awaited⟩

end Switch

end Events

/-- Settles O50: the events of a stroke, then the seated switches outside one. -/
theorem strokeEndsByItsEvent : Obligations.StrokeEndsByItsEvent := by
  refine ⟨fun s count x e o working stroking current live ended => ?stroke, fun s p count working idle => ?switches⟩
  case stroke =>
    have unended : s.Unended := State.unended_of_live live ended
    have pump : exec (.pumpComplete count) s = .next (s.pumpDone count).finish :=
      State.command_of_working working (State.pumpDone count)
    refine ⟨fun n stroke full more => ?more, fun _ last => ?last, fun k n given stroke short => ?short, ?timeout,
      fun m homed => ?pass, fun p drawing code => ?unseated⟩
    case more => rw [pump, State.pumpDone_of_more stroking current unended stroke full more]
    case last => rw [pump, State.pumpDone_of_last stroking current unended last]
    case short => rw [pump, State.pumpDone_of_short stroking current unended given stroke short]
    case timeout =>
      change execStrokeTimeout count s = _
      rw [execStrokeTimeout, State.command_of_working working, if_pos stroking,
        State.haltStroke_of_current current unended]
    case pass =>
      have lost : s.positioner.pass = { s.positioner with state := .lost } := by
        simp only [Positioner.pass, homed]
      refine (State.command_of_working working (State.homePass m count)).trans ?_
      rw [State.homePass]
      dsimp only
      rw [if_pos ⟨homed, stroking⟩, lost]
      exact congrArg (fun u : State => Host.Outcome.next u.finish) (State.haltStroke_of_current
        (s := { s with positioner := { s.positioner with state := .lost, onMark := m } }) current unended .lost)
    case unseated =>
      refine (State.command_of_working working (State.unseat p count)).trans ?_
      rw [State.unseat_of_stroke stroking drawing (Canister.configured_of_code code)]
      exact congrArg (fun u : State => Host.Outcome.next u.finish) (State.haltStroke_of_current
        (s := (s.modCanister p fun c => { c with seated := false }).notify
          (.canisterUnseated 0 [p] s.canisters[p].code)) current unended .unseated)
  case switches =>
    have opens : exec (.seatedSwitchOpen p count) s = .next (s.unseat p count).finish :=
      State.command_of_working working (State.unseat p count)
    have closes : exec (.seatedSwitchClose p) s = .next (s.reseat p).finish :=
      State.command_of_working working (State.reseat p)
    have unstroked := State.unseat_of_idle (count := count) (p := p) fun both => idle both.1
    refine ⟨fun code => ?told, fun code => ?untold, fun quiet => ?recorded, fun x e code waiting current pos =>
      ?rechecked⟩
    case told => rw [opens, unstroked, if_pos (Canister.configured_of_code code)]
    case untold => rw [opens, unstroked, if_neg (Canister.unconfigured_of_code code)]
    case recorded =>
      rw [closes, State.reseat_eq]
      rcases quiet with code | other
      · rw [if_neg (Canister.unconfigured_of_code code)]
      · rw [State.reportPosition_of_other (s := s.modCanister p fun c => { c with seated := true }) other, ite_self]
    case rechecked =>
      rw [closes, State.reseat_eq, if_pos (Canister.configured_of_code code)]
      exact congrArg (fun u : State => Host.Outcome.next u.finish) (State.reportPosition_of_waiting
        (s := s.modCanister p fun c => { c with seated := true }) waiting current pos)

end Sys2Proof.Machine
end

section
/-! The supply warning (O52). -/

namespace Sys2Proof.Machine

variable {s : State} {count : Option Nat}

/-- The stroke in progress at a warning, counted and its entry PARTIAL (R93). -/
def State.cutStroke (s : State) (count : Option Nat) : State :=
  if s.station.state = .stroking then
    match s.station.cur with
    | some c => (s.endStroke count).setEntry c.index .partialShot
    | none => s
  else s

theorem State.warnStation_eq (s : State) (count : Option Nat) :
    s.warnStation count = (s.cutStroke count).abandonSettle.modStation fun st => { st with
      state := .halted, finding := none, awaitHoming := false } := rfl

theorem State.cutStroke_of_idle (idle : s.station.state ≠ .stroking) : s.cutStroke count = s := if_neg idle

theorem State.cutStroke_of_current {c : CurrentEntry} {e : Entry} (stroking : s.station.state = .stroking)
    (current : s.current? = some (c, e)) :
    s.cutStroke count = (s.endStroke count).setEntry c.index .partialShot := by
  rw [State.cutStroke, if_pos stroking, State.cur_of_current current]

/-- A stroke cut off touches the canister account, the notice queue and the station's records. -/
theorem State.cutStroke_eq (s : State) (count : Option Nat) :
    s.cutStroke count = { s with
      canisters := (s.cutStroke count).canisters, notices := (s.cutStroke count).notices
      station := (s.cutStroke count).station } := by
  unfold State.cutStroke
  split
  · split
    · rw [State.endStroke_eq]
      rfl
    · rfl
  · rfl

theorem Bay.warned_atRest (y : Bay) : y.warned.state.atRest = true := by
  rw [Bay.warned]
  split
  · assumption
  · rfl

/-- Settles O52, block by block. -/
theorem supplyWarningSecuresTheState : Obligations.SupplyWarningSecuresTheState := by
  intro s count travelled working
  have warns : exec (.supplyWarning count travelled) s = .next (s.warn count travelled) := by
    change execSupplyWarning count travelled s = _
    rw [execSupplyWarning, if_neg (by simp [working])]
  have station : (s.warn count travelled).station = { (s.cutStroke count).station with
      state := .halted, finding := none, awaitHoming := false } := by
    rw [State.warn, State.warnStation_eq]
    rfl
  have canisters : (s.warn count travelled).canisters = (s.cutStroke count).canisters := by
    rw [State.warn, State.warnStation_eq]
    rfl
  refine ⟨s.warn count travelled, warns, rfl, ?book, rfl, ?classes, ?settings, ?lanes, ?intake, ?magazines, rfl, rfl,
    fun d => ?records, rfl, ?station, ?weigh, ?bayOne, ?bayTwo, ?lidder, fun idle => ?idle,
    fun x e stroking current => ?stroke⟩
  case magazines => exact Lidder.halted_magazines s.lidder
  case records => cases d with
    | bay b => cases b <;> rfl
    | _ => rfl
  case station => rw [station]
  case weigh => rw [State.warn, State.warnStation_eq]; rfl
  case bayOne => exact Bay.warned_atRest s.bayOne
  case bayTwo => exact Bay.warned_atRest s.bayTwo
  case lidder => exact Lidder.halted_atRest s.lidder
  case idle =>
    rw [canisters, station, State.cutStroke_of_idle idle]
    exact ⟨rfl, rfl⟩
  case stroke =>
    rw [canisters, State.entry?, station, State.cutStroke_of_current stroking current]
    exact ⟨rfl, rfl⟩
  all_goals
    rw [State.warn, State.warnStation_eq, State.cutStroke_eq]
    rfl

end Sys2Proof.Machine
end
section
/-! A cold start taken whole (O53). -/

namespace Sys2Proof.Machine

variable {s : State} {x : Sensors}

/-- The state a start-up announces, before the notices its changes call for and the reading of the chain (R175). -/
def State.announced (s : State) (x : Sensors) (warm : Bool) : State :=
  (((s.readSensors x).loadImage warm).1.startStations.emptyQueues).announceStart warm

theorem State.announced_line (s : State) (x : Sensors) (warm : Bool) :
    (s.announced x warm).line = { mode := .paused, pendingMode := none, latch := false, chainOpen := x.chainOpen } := by
  have line : ((s.readSensors x).loadImage warm).1.line.chainOpen = x.chainOpen := by rw [State.loadImage_line]; rfl
  rw [← line]
  rfl

/-- With the chain closed a start-up ends in the state announced, with the notices of its changes appended (R175). -/
theorem State.startUp_of_closed (closed : x.chainOpen = false) (warm : Bool) :
    s.startUp x warm = ((s.readSensors x).loadImage warm).2.foldl State.notify (s.announced x warm) := by
  have line : (((s.readSensors x).loadImage warm).2.foldl State.notify (s.announced x warm)).line.chainOpen =
      x.chainOpen := by
    rw [State.foldl_notify]
    exact congrArg LineUnit.chainOpen (State.announced_line s x warm)
  have still : ¬ (((s.readSensors x).loadImage warm).2.foldl State.notify (s.announced x warm)).line.chainOpen =
      true := by simp [line, closed]
  exact if_neg still

/-- A cold start changes nothing that calls for a notice (R174). -/
theorem State.startUp_cold (closed : x.chainOpen = false) : s.startUp x false = s.announced x false :=
  State.startUp_of_closed closed false

theorem State.readSensors_lane (s : State) (x : Sensors) (l : Lane) :
    (s.readSensors x).lanes[l] = { s.lanes[l] with present := x.lanes[l] } := getElem_ofFn_fin _ l

theorem State.readSensors_canister (s : State) (x : Sensors) (p : Position) :
    (s.readSensors x).canisters[p] = { s.canisters[p] with seated := x.seated[p] } := getElem_ofFn_fin _ p

theorem State.readSensors_seated (s : State) (x : Sensors) (p : Position) :
    (s.readSensors x).canisters[p].seated = x.seated[p] := by
  rw [State.readSensors_canister]

theorem Canister.loaded_eq (f : Canister) (seated : Bool) :
    f.loaded seated = { f with
      seated := seated, confirmed := false, mark := 0, drawing := false
      lowArmed := f.configured && !f.isLow, dryArmed := f.configured && !f.isDry } := rfl

theorem exec_startUp_whole (s : State) (x : Sensors) (warm : Bool) :
    exec (.startUp x warm none) s = .next (s.startUp x warm).finish := rfl

/-- Settles O53, block by block. -/
theorem coldStartTakenWhole : Obligations.ColdStartTakenWhole := by
  intro s x closed
  refine ⟨_, _, exec_startUp_whole s x false, rfl, ?_⟩
  rw [State.startUp_cold closed]
  refine ⟨rfl, rfl, ?classes, ?settings, fun p => ⟨s.supply.coldTables.canisters[p], ?image, ?canister⟩, rfl, ?line,
    rfl, rfl, rfl, rfl, rfl, rfl, rfl, rfl, rfl, rfl, rfl, fun k => ?magazines, fun l => ?lane, rfl, rfl, rfl, rfl, rfl⟩
  case classes =>
    change s.supply.coldTables.classes = _
    rw [Supply.coldTables]
    split <;> rfl
  case settings =>
    change s.supply.coldTables.settings = _
    rw [Supply.coldTables]
    split <;> rfl
  case image =>
    rw [Supply.coldTables]
    split
    · rfl
    · exact Vector.getElem_replicate p.isLt
  case canister =>
    have loaded : (s.announced x false).canisters =
        Vector.ofFn fun p : Position => s.supply.coldTables.canisters[p].loaded (s.readSensors x).canisters[p].seated :=
      rfl
    rw [loaded, getElem_ofFn_fin, State.readSensors_seated, Canister.loaded_eq]
  case line => rw [State.announced_line, closed]
  case magazines => cases k <;> rfl
  case lane =>
    have afresh : (s.announced x false).lanes = Vector.ofFn fun l : Lane => (s.readSensors x).lanes[l].afresh := rfl
    rw [afresh, getElem_ofFn_fin, State.readSensors_lane]
    rfl

end Sys2Proof.Machine
end

section
/-! The warm start (O54): what it makes of one order, of all of them, and of the tables. -/

namespace Sys2Proof.Machine

variable {s w : State} {n m : Nat} {o : Order} {x : Sensors}

/-! ## A lane that senses the tin of an order -/

theorem State.laneSenses_iff {st : LaneState} :
    s.laneSenses n st = true ↔
      ∃ l : Lane, s.lanes[l].state = st ∧ s.lanes[l].present = true ∧ s.lanes[l].tin.map TinRef.order = some n := by
  simp only [State.laneSenses, List.any_eq_true, Bool.and_eq_true, beq_iff_eq, Vector.mem_toList_iff, and_assoc]
  constructor
  · rintro ⟨r, held, found⟩
    obtain ⟨i, inside, rfl⟩ := Vector.mem_iff_getElem.1 held
    exact ⟨⟨i, inside⟩, found⟩
  · rintro ⟨l, found⟩
    exact ⟨s.lanes[l], Vector.getElem_mem l.isLt, found⟩

theorem LaneRecord.freed_of_own {r : LaneRecord} (own : r.tin.map TinRef.order = some n) : (r.freed n).tin = none := by
  obtain ⟨t, tin, same⟩ := Option.map_eq_some_iff.1 own
  rw [LaneRecord.freed, tin]
  dsimp only
  rw [if_pos same]
  split <;> rfl

/-- An order freed takes no other order's tin out of its lane (R20). -/
theorem State.laneSenses_freeOrder (other : m ≠ n) (r : EndReason) (st : LaneState) :
    (s.freeOrder n r).laneSenses m st = s.laneSenses m st := by
  cases live : s.order? n with
  | none => rw [State.freeOrder, live]
  | some o =>
    rw [Bool.eq_iff_iff, State.laneSenses_iff, State.laneSenses_iff]
    refine exists_congr fun l => ?_
    rw [State.freeOrder_lane live]
    by_cases own : s.lanes[l].tin.map TinRef.order = some n
    · have gone := LaneRecord.freed_of_own own
      simp only [gone, own, Option.map_none, Option.some_inj, Ne.symm other, reduceCtorEq, and_false]
    · rw [LaneRecord.freed_of_other own]

theorem State.laneSenses_of_lanes (same : s.lanes = w.lanes) (st : LaneState) :
    s.laneSenses n st = w.laneSenses n st := by
  rw [State.laneSenses, same, State.laneSenses]

theorem State.laneSenses_reportLift (other : m ≠ n) (st : LaneState) :
    (s.reportLift n).laneSenses m st = s.laneSenses m st := by
  unfold State.reportLift
  split
  · exact State.laneSenses_freeOrder other _ st
  · rfl

theorem State.laneSenses_loseTin (other : m ≠ n) (st : LaneState) :
    (s.loseTin n).laneSenses m st = s.laneSenses m st := by
  rcases State.loseTin_cases s n with ⟨o, e, -, -, freed⟩ | ⟨lanes, -⟩
  · rw [freed, State.laneSenses_freeOrder other]
  · exact State.laneSenses_of_lanes lanes st

/-! ## One order mapped (R173) -/

/-- Mapping an order changes nothing, reports its lift, loses its tin, frees it, or drops its tin from its record. -/
theorem State.mapOrder_cases (s : State) (n : Nat) :
    s.mapOrder n = s ∨ s.mapOrder n = s.reportLift n ∨ s.mapOrder n = s.loseTin n ∨
      s.mapOrder n = s.freeOrder n .collected ∨ s.mapOrder n = s.modOrder n fun o => { o with tin := none } := by
  unfold State.mapOrder
  split
  · exact .inl rfl
  · split
    · exact .inr (.inl rfl)
    · split
      case h_1 | h_2 => exact .inl rfl
      case h_10 =>
        split
        · exact .inl rfl
        · exact .inr (.inr (.inr (.inl rfl)))
      case h_11 | h_12 =>
        split
        · exact .inl rfl
        · exact .inr (.inr (.inr (.inr rfl)))
      all_goals exact .inr (.inr (.inl rfl))

theorem State.mapOrder_eq (s : State) (n : Nat) :
    s.mapOrder n = { s with
      book := (s.mapOrder n).book, notices := (s.mapOrder n).notices, lanes := (s.mapOrder n).lanes } := by
  rcases State.mapOrder_cases s n with same | same | same | same | same <;> rw [same]
  · rw [State.reportLift_eq]
  · rw [State.loseTin_eq]
  · rw [State.freeOrder_eq]
  · rfl

theorem State.order?_mapOrder_of_ne (other : m ≠ n) : (s.mapOrder n).order? m = s.order? m := by
  rcases State.mapOrder_cases s n with same | same | same | same | same <;> rw [same]
  · exact State.order?_reportLift_of_ne other
  · exact State.order?_loseTin_of_ne other
  · exact State.order?_freeOrder_of_ne s n m _ other
  · exact State.order?_modOrder_of_ne (by intro; rfl) other

theorem State.laneSenses_mapOrder (other : m ≠ n) (st : LaneState) :
    (s.mapOrder n).laneSenses m st = s.laneSenses m st := by
  rcases State.mapOrder_cases s n with same | same | same | same | same <;> rw [same]
  · exact State.laneSenses_reportLift other st
  · exact State.laneSenses_loseTin other st
  · exact State.laneSenses_freeOrder other _ st
  · rfl

theorem State.mapOrder_counts (s : State) (n : Nat) :
    (s.mapOrder n).book.admission = s.book.admission ∧ (s.mapOrder n).book.lastTin = s.book.lastTin := by
  rcases State.mapOrder_cases s n with same | same | same | same | same <;> rw [same]
  · exact ⟨rfl, rfl⟩
  · unfold State.reportLift
    split
    · exact State.freeOrder_counts ..
    · exact ⟨rfl, rfl⟩
  · exact State.loseTin_counts s n
  · exact State.freeOrder_counts ..
  · exact ⟨rfl, rfl⟩

/-- The record with its tin no longer tracked. -/
def Order.dropTin (o : Order) : Order := { o with tin := none }

/-- The record the warm start leaves of an order, if it leaves one (R173). -/
def State.afterStart (s : State) (o : Order) : Option Order :=
  if o.pendingEnd.isSome then none
  else
    match o.state with
    | .queued | .interrupted => some o
    | .bound | .dispensing | .manual | .held | .dispensed | .mixing | .lidding => s.afterLoss o
    | .outlet => if s.laneSenses o.number .collect then some o else none
    | .check | .returning => if s.laneSenses o.number .check then some o else some o.dropTin

theorem State.order?_mapOrder_self (live : s.order? n = some o) : (s.mapOrder n).order? n = s.afterStart o := by
  obtain rfl := State.order?_number live
  rw [State.mapOrder, live]
  dsimp only
  rw [State.afterStart]
  split
  · next ended =>
    obtain ⟨e, pending⟩ := Option.isSome_iff_exists.1 ended
    simp only [State.reportLift, State.pendingEndOf, live, Option.bind_some, pending]
    exact State.order?_freeOrder ..
  · cases o.state
    case queued | interrupted => exact live
    case outlet =>
      dsimp only
      split
      · exact live
      · exact State.order?_freeOrder ..
    case check | returning =>
      dsimp only
      split
      · exact live
      · exact State.order?_modOrder_self (f := Order.dropTin) live (by intro; rfl)
    all_goals exact State.order?_loseTin_self live

theorem State.afterStart_congr (station : s.station = w.station)
    (lanes : ∀ st, s.laneSenses o.number st = w.laneSenses o.number st) : s.afterStart o = w.afterStart o := by
  simp only [State.afterStart, lanes, State.afterLoss_of_station station]

/-! ## All orders mapped, one after another -/

/-- Some orders mapped one after another. -/
def State.mapList (s : State) (os : List Order) : State := os.foldl (fun t o => t.mapOrder o.number) s

theorem State.mapList_cons (s : State) (o : Order) (os : List Order) :
    s.mapList (o :: os) = (s.mapOrder o.number).mapList os := rfl

theorem State.mapList_eq (s : State) (os : List Order) :
    s.mapList os = { s with
      book := (s.mapList os).book, notices := (s.mapList os).notices, lanes := (s.mapList os).lanes } := by
  induction os generalizing s with
  | nil => rfl
  | cons o rest ih => rw [State.mapList_cons, ih, State.mapOrder_eq]

theorem State.mapList_counts (s : State) (os : List Order) :
    (s.mapList os).book.admission = s.book.admission ∧ (s.mapList os).book.lastTin = s.book.lastTin := by
  induction os generalizing s with
  | nil => exact ⟨rfl, rfl⟩
  | cons o rest ih =>
    obtain ⟨admission, lastTin⟩ := ih (s.mapOrder o.number)
    obtain ⟨admission', lastTin'⟩ := State.mapOrder_counts s o.number
    exact ⟨admission.trans admission', lastTin.trans lastTin'⟩

theorem State.order?_mapList_of_notMem {os : List Order} (absent : m ∉ os.map Order.number) :
    (s.mapList os).order? m = s.order? m := by
  induction os generalizing s with
  | nil => rfl
  | cons o rest ih =>
    simp only [List.map_cons, List.mem_cons, not_or] at absent
    obtain ⟨other, absent⟩ := absent
    rw [State.mapList_cons, ih absent, State.order?_mapOrder_of_ne other]

theorem State.Lists.mapped {os : List Order} (lists : s.Lists (o :: os)) : (s.mapOrder o.number).Lists os := by
  have ⟨absent, distinct⟩ := List.nodup_cons.1 lists.distinct
  refine ⟨distinct, fun q hq => ?_⟩
  have other : q.number ≠ o.number := fun same => absent (same ▸ List.mem_map_of_mem hq)
  rw [State.order?_mapOrder_of_ne other, lists.live q (List.mem_cons_of_mem _ hq)]

theorem State.order?_mapList_of_mem {os : List Order} (lists : s.Lists os) (mem : o ∈ os) :
    (s.mapList os).order? o.number = s.afterStart o := by
  induction os generalizing s with
  | nil => cases mem
  | cons q rest ih =>
    obtain ⟨absent, -⟩ := List.nodup_cons.1 lists.distinct
    rw [State.mapList_cons]
    rcases List.mem_cons.1 mem with rfl | mem
    · rw [State.order?_mapList_of_notMem absent]
      exact State.order?_mapOrder_self (lists.live o (List.mem_cons_self ..))
    · have other : o.number ≠ q.number := fun same => absent (same ▸ List.mem_map_of_mem mem)
      rw [ih lists.mapped mem]
      refine State.afterStart_congr ?_ fun st => State.laneSenses_mapOrder other st
      rw [State.mapOrder_eq]

/-! ## AMOUNT_UNKNOWN after an unclean image -/

theorem Order.doubted_eq (o : Order) (doubt : Bool) :
    o.doubted doubt = { o with flags := { o.flags with amountUnknown := o.flags.amountUnknown || doubt } } := by
  cases doubt
  · rw [Bool.or_false]
    rfl
  · rw [Bool.or_true]
    rfl

/-- The last debit of an order is in doubt (R173). -/
def State.doubts (s : State) (o : Order) : Bool := !s.supply.clean && s.activeEntry o

theorem State.flagUnclean_eq (s : State) :
    s.flagUnclean = { s with
      book := { s.book with orders := s.book.orders.map fun o => o.doubted (s.doubts o) } } := by
  unfold State.flagUnclean State.doubts
  cases s.supply.clean with
  | false => rfl
  | true =>
    have kept : (s.book.orders.map fun o : Order => o.doubted (!true && s.activeEntry o)) = s.book.orders :=
      List.map_id _
    rw [kept]
    rfl

theorem State.activeEntry_eq (s : State) (o : Order) :
    s.activeEntry o = (s.stationPlan o.number).any fun q => q.entries.any fun e => e.state == .active := by
  rw [State.activeEntry]
  cases s.stationPlan o.number <;> rfl

theorem Order.receivedColourant_doubted (o : Order) (doubt : Bool) (plan : Option PlanContext) :
    (o.doubted doubt).receivedColourant plan = (o.receivedColourant plan || doubt) := by
  simp only [Order.doubted_eq, Order.receivedColourant]
  ac_rfl

/-! ## The image after the mapping -/

/-- The sensors read and the orders in doubt flagged, before the mapping (R173). -/
def State.flagged (s : State) (x : Sensors) : State := ({ s.readSensors x with notices := [] } : State).flagUnclean

/-- The orders mapped (R173). -/
def State.mapped (s : State) (x : Sensors) : State := (s.flagged x).mapList (s.flagged x).book.orders

theorem State.flagged_eq (s : State) (x : Sensors) :
    s.flagged x = { s.readSensors x with
      notices := [], book := { s.book with orders := s.book.orders.map fun o => o.doubted (s.doubts o) } } := by
  rw [State.flagged, State.flagUnclean_eq]
  rfl

theorem State.mapped_eq (s : State) (x : Sensors) :
    s.mapped x = { s.readSensors x with
      book := (s.mapped x).book, notices := (s.mapped x).notices, lanes := (s.mapped x).lanes } := by
  rw [State.mapped, State.mapList_eq, State.flagged_eq]

theorem State.mapped_counts (s : State) (x : Sensors) :
    (s.mapped x).book.admission = s.book.admission ∧ (s.mapped x).book.lastTin = s.book.lastTin := by
  obtain ⟨admission, lastTin⟩ := State.mapList_counts (s.flagged x) (s.flagged x).book.orders
  rw [State.mapped, admission, lastTin, State.flagged_eq]
  exact ⟨rfl, rfl⟩

theorem Order.doubted_number (o : Order) (doubt : Bool) : (o.doubted doubt).number = o.number := by
  rw [Order.doubted_eq]

theorem State.flagged_lists (distinct : (s.book.orders.map Order.number).Nodup) (x : Sensors) :
    (s.flagged x).Lists (s.flagged x).book.orders := by
  have numbers : (s.flagged x).book.orders.map Order.number = s.book.orders.map Order.number := by
    rw [State.flagged_eq]
    simp only [List.map_map, Function.comp_def, Order.doubted_number]
  have apart : ((s.flagged x).book.orders.map Order.number).Nodup := numbers ▸ distinct
  exact ⟨apart, fun _ mem => State.order?_of_mem apart mem⟩

/-- What the mapping leaves of each order that was live (R173). -/
theorem State.order?_mapped (distinct : (s.book.orders.map Order.number).Nodup) (mem : o ∈ s.book.orders)
    (x : Sensors) : (s.mapped x).order? o.number = (s.flagged x).afterStart (o.doubted (s.doubts o)) := by
  have listed : o.doubted (s.doubts o) ∈ (s.flagged x).book.orders := by
    rw [State.flagged_eq]
    exact List.mem_map_of_mem mem
  have left := State.order?_mapList_of_mem (State.flagged_lists distinct x) listed
  rwa [Order.doubted_number] at left

theorem State.flagged_senses {st : LaneState} :
    (s.flagged x).laneSenses n st = true ↔
      ∃ l : Lane, s.lanes[l].state = st ∧ x.lanes[l] = true ∧ s.lanes[l].tin.map TinRef.order = some n := by
  have lanes (l : Lane) : (s.flagged x).lanes[l] = { s.lanes[l] with present := x.lanes[l] } := by
    rw [State.flagged_eq]
    exact State.readSensors_lane s x l
  simp only [State.laneSenses_iff, lanes]

theorem State.flagged_silent {st : LaneState} (silent : ∀ l : Lane, s.lanes[l].state = st → x.lanes[l] = true →
    s.lanes[l].tin.map TinRef.order ≠ some n) : (s.flagged x).laneSenses n st = false := by
  rw [Bool.eq_false_iff, ne_eq, State.flagged_senses]
  exact fun ⟨l, state, present, tin⟩ => silent l state present tin

theorem State.flagged_keptPlan (s : State) (x : Sensors) (o : Order) (doubt : Bool) :
    (s.flagged x).keptPlan (o.doubted doubt) = s.keptPlan o := by
  rw [State.flagged_eq, Order.doubted_eq]
  rfl

/-! ## The record of each order after the start -/

theorem State.afterStart_of_ended (ended : o.pendingEnd ≠ none) : s.afterStart o = none :=
  if_pos (Option.isSome_iff_ne_none.2 ended)

section Unended

variable (unended : o.pendingEnd = none)

include unended

theorem State.afterStart_of_waiting (waiting : o.state = .interrupted ∨ o.state = .queued) :
    s.afterStart o = some o := by
  rw [State.afterStart, if_neg (by simp [unended])]
  rcases waiting with state | state <;> rw [state]

theorem State.afterStart_of_line
    (line : o.state ∈ [OrderState.bound, .dispensing, .manual, .held, .dispensed, .mixing, .lidding]) :
    s.afterStart o = s.afterLoss o := by
  rw [State.afterStart, if_neg (by simp [unended])]
  simp only [List.mem_cons, List.not_mem_nil, or_false] at line
  rcases line with state | state | state | state | state | state | state <;> rw [state]

theorem State.afterStart_of_outlet (outlet : o.state = .outlet) :
    s.afterStart o = if s.laneSenses o.number .collect then some o else none := by
  rw [State.afterStart, if_neg (by simp [unended]), outlet]

theorem State.afterStart_of_check (check : o.state = .check ∨ o.state = .returning) :
    s.afterStart o = if s.laneSenses o.number .check then some o else some o.dropTin := by
  rw [State.afterStart, if_neg (by simp [unended])]
  rcases check with state | state <;> rw [state]

theorem State.afterLoss_of_tinted (tinted : o.receivedColourant (s.keptPlan o) = true) :
    s.afterLoss o = some { o.interrupt (s.keptPlan o) with state := .interrupted } := by
  rw [State.afterLoss, State.lossOf_of_tinted unended tinted]

theorem State.afterLoss_of_clean (clean : o.receivedColourant (s.keptPlan o) = false) :
    s.afterLoss o = some { o.requeue with state := .queued } := by
  rw [State.afterLoss, State.lossOf_of_clean unended clean]

end Unended

/-- An order on the line at a warm start: INTERRUPTED when it has received colourant or that is in doubt, else
QUEUED (R173). -/
theorem State.afterLoss_of_flagged (unended : o.pendingEnd = none) (x : Sensors) (doubt : Bool) :
    ∃ q, (s.flagged x).afterLoss (o.doubted doubt) = some q ∧ q.tin = none ∧ q.fault = none ∧
      q.flags = { o.flags with amountUnknown := o.flags.amountUnknown || doubt } ∧
      ((o.receivedColourant (s.keptPlan o) = true ∨ doubt = true) →
        q.state = .interrupted ∧ q.partialPlan = (s.keptPlan o).map PlanContext.toPartial) ∧
      (o.receivedColourant (s.keptPlan o) = false → doubt = false → q.state = .queued ∧ q.partialPlan = none) := by
  have plan := State.flagged_keptPlan s x o doubt
  have unended' : (o.doubted doubt).pendingEnd = none := by rwa [Order.doubted_eq]
  have flags : (o.doubted doubt).flags = { o.flags with amountUnknown := o.flags.amountUnknown || doubt } := by
    rw [Order.doubted_eq]
  have received : (o.doubted doubt).receivedColourant ((s.flagged x).keptPlan (o.doubted doubt)) =
      (o.receivedColourant (s.keptPlan o) || doubt) := by
    rw [plan, Order.receivedColourant_doubted]
  by_cases tinted : (o.receivedColourant (s.keptPlan o) || doubt) = true
  · refine ⟨_, State.afterLoss_of_tinted unended' (received.trans tinted), rfl, rfl, flags, fun _ => ⟨rfl, ?_⟩,
      fun clean certain => ?_⟩
    · exact congrArg (Option.map PlanContext.toPartial) plan
    · rw [clean, certain] at tinted
      exact absurd tinted Bool.false_ne_true
  · rw [Bool.not_eq_true] at tinted
    refine ⟨_, State.afterLoss_of_clean unended' (received.trans tinted), rfl, rfl, flags, fun either => ?_,
      fun _ _ => ⟨rfl, rfl⟩⟩
    obtain ⟨clean, certain⟩ := Bool.or_eq_false_iff.1 tinted
    rw [clean, certain] at either
    exact absurd either (by simp)

/-! ## A warm start taken whole -/

theorem State.startUp_warm (s : State) (closed : x.chainOpen = false) :
    ∃ ns, s.startUp x true = { s.announced x true with notices := ns } :=
  ⟨_, (State.startUp_of_closed closed true).trans (State.foldl_notify ..)⟩

/-- The image a warm start loads: the orders mapped, the canisters and lanes kept, the station's records gone (R173). -/
theorem State.loadImage_warm (s : State) (x : Sensors) :
    ((s.readSensors x).loadImage true).1 = { s.readSensors x with
      book := (s.mapped x).book
      canisters := Vector.ofFn fun p : Position => ((s.readSensors x).canisters[p]).kept
      lanes := Vector.ofFn fun i : Lane => (s.mapped x).lanes[i].kept ((s.mapped x).book.claims (s.mapped x).lanes[i])
      station := { (s.readSensors x).station with order := none, tin := none, plan := none, cur := none } } := by
  have mapped : ({ s.readSensors x with notices := [] } : State).flagUnclean.mapOrders =
      (s.mapped x).modStation fun st => { st with order := none, tin := none, plan := none, cur := none } := rfl
  rw [State.loadImage, if_pos rfl, State.loadWarm, mapped, State.mapped_eq]
  rfl

theorem State.announced_frame (s : State) (x : Sensors) (warm : Bool) :
    (s.announced x warm).book = ((s.readSensors x).loadImage warm).1.book ∧
    (s.announced x warm).canisters = ((s.readSensors x).loadImage warm).1.canisters ∧
    (s.announced x warm).classes = ((s.readSensors x).loadImage warm).1.classes ∧
    (s.announced x warm).settings = ((s.readSensors x).loadImage warm).1.settings ∧
    (s.announced x warm).lidder.magazines = ((s.readSensors x).loadImage warm).1.lidder.magazines ∧
    (s.announced x warm).supply = { ((s.readSensors x).loadImage warm).1.supply with
      warned := false, clean := false, saving := none } :=
  ⟨rfl, rfl, rfl, rfl, rfl, rfl⟩

theorem Canister.kept_confirmed (c : Canister) : c.kept.confirmed = (c.confirmed && (c.code == 0 || c.seated)) := by
  change (c.confirmed && !(c.configured && !c.seated)) = _
  rw [Canister.configured, Bool.not_and, Bool.not_not, bne, Bool.not_not]

/-- The steps of a start-up that a warning cuts short change the supply monitor not at all, and the book only after the
sensors are read (R175). -/
theorem State.startUpSteps_abandoned (s : State) (x : Sensors) (warm : Bool) (k : Fin 5) :
    (s.startUpSteps x warm k.val).supply.clean = s.supply.clean ∧
    (s.startUpSteps x warm k.val).station.present = (if k.val = 0 then s.station.present else x.dispense) ∧
    (k.val ≤ 1 → (s.startUpSteps x warm k.val).book = s.book ∧ (s.startUpSteps x warm k.val).notices = s.notices) := by
  have image : ((s.readSensors x).loadImage warm).1.supply.clean = s.supply.clean ∧
      ((s.readSensors x).loadImage warm).1.station.present = x.dispense := by
    cases warm
    · exact ⟨rfl, rfl⟩
    · rw [State.loadImage_warm]
      exact ⟨rfl, rfl⟩
  obtain ⟨clean, present⟩ := image
  match k with
  | 0 => exact ⟨rfl, rfl, fun _ => ⟨rfl, rfl⟩⟩
  | 1 => exact ⟨rfl, rfl, fun _ => ⟨rfl, rfl⟩⟩
  | 2 | 3 | 4 => exact ⟨clean, present, fun early => absurd early (by decide)⟩

/-- Settles O54: the tables, then each order by its state, then a start-up cut short. -/
theorem warmStartMapsTheOrders : Obligations.WarmStartMapsTheOrders := by
  refine ⟨fun s x closed distinct => ?whole, fun s x warm k => ?short⟩
  case short =>
    obtain ⟨clean, present, early⟩ := State.startUpSteps_abandoned s x warm k
    exact ⟨_, rfl, rfl, clean, rfl, rfl, present, early⟩
  case whole =>
    obtain ⟨ns, starts⟩ := State.startUp_warm s closed
    obtain ⟨book, canisters, classes, settings, magazines, supply⟩ := State.announced_frame s x true
    rw [State.loadImage_warm] at book canisters classes settings magazines supply
    obtain ⟨admission, lastTin⟩ := State.mapped_counts s x
    refine ⟨_, _, exec_startUp_whole s x true, rfl, ?_⟩
    rw [starts]
    refine ⟨classes, settings, magazines, fun p => ?canister, supply, ?line, rfl, rfl, rfl,
      (congrArg Book.admission book).trans admission, (congrArg Book.lastTin book).trans lastTin,
      fun o mem doubt doubted => ?order⟩
    case canister =>
      have record : (s.announced x true).canisters[p] =
          ({ s.canisters[p] with seated := x.seated[p] } : Canister).kept := by
        rw [canisters, getElem_ofFn_fin, State.readSensors_canister]
      dsimp only
      rw [record]
      exact ⟨rfl, rfl, rfl, rfl, rfl, Canister.kept_confirmed _⟩
    case line =>
      have line := State.announced_line s x true
      rwa [closed] at line
    case order =>
      have doubts : doubt = s.doubts o := by rw [doubted, State.doubts, State.activeEntry_eq]
      have kept : ({ s.announced x true with notices := ns } : State).order? o.number =
          (s.flagged x).afterStart (o.doubted doubt) := by
        rw [doubts, ← State.order?_mapped distinct mem x, State.order?, State.order?, book]
      rw [kept]
      have same := Order.doubted_eq o doubt
      have ends : (o.doubted doubt).pendingEnd = o.pendingEnd := by rw [same]
      have state : (o.doubted doubt).state = o.state := by rw [same]
      have tin : (o.doubted doubt).tin = o.tin := by rw [same]
      have number : (o.doubted doubt).number = o.number := by rw [same]
      refine ⟨fun ended => ?ended, fun unended waiting => ?waiting, fun unended line => ?onLine,
        fun unended outlet => ⟨fun senses => ?stands, fun silent => ?lifted⟩,
        fun unended check => ⟨fun senses => ?checked, fun silent => ?untracked⟩⟩
      case ended => exact State.afterStart_of_ended (ends ▸ ended)
      case waiting =>
        exact ⟨_, State.afterStart_of_waiting (ends.trans unended) (state.symm ▸ waiting), state, by rw [same],
          by rw [same]⟩
      case onLine =>
        rw [State.afterStart_of_line (ends.trans unended) (state.symm ▸ line)]
        exact State.afterLoss_of_flagged unended x doubt
      case stands =>
        refine ⟨_, ?_, state.trans outlet, tin⟩
        rw [State.afterStart_of_outlet (ends.trans unended) (state.trans outlet), number,
          if_pos (State.flagged_senses.2 senses)]
      case lifted =>
        rw [State.afterStart_of_outlet (ends.trans unended) (state.trans outlet), number, State.flagged_silent silent,
          if_neg Bool.false_ne_true]
      case checked =>
        refine ⟨_, ?_, state, tin⟩
        rw [State.afterStart_of_check (ends.trans unended) (state.symm ▸ check), number,
          if_pos (State.flagged_senses.2 senses)]
      case untracked =>
        refine ⟨(o.doubted doubt).dropTin, ?_, state, rfl⟩
        rw [State.afterStart_of_check (ends.trans unended) (state.symm ▸ check), number, State.flagged_silent silent,
          if_neg Bool.false_ne_true]

end Sys2Proof.Machine
end

section
/-! The verdict of an automatic phase and the top-up (O57). -/

namespace Sys2Proof.Machine

variable {s : State} {c : CurrentEntry} {e : Entry} {o : Order} {r : Option Nat} {v : Verdict}

/-! ## The phase judged -/

/-- The state a phase is judged in: the reading kept, the flags set, the mass entered and SHOT_DONE told (R83). -/
def State.judgedBy (s : State) (c : CurrentEntry) (e : Entry) (r inc : Option Nat) (v : Verdict) : State :=
  (((s.endReading r).setFlag s.served fun f => f.judged c e.flags.weigh inc).addMass c.index inc).shotDone v
    (inc.map fun d => c.judged + d)

theorem State.addMass_served (i : Nat) (inc : Option Nat) : (s.addMass i inc).served = s.served := by
  cases inc <;> rfl

theorem State.addMass_book (i : Nat) (inc : Option Nat) : (s.addMass i inc).book = s.book := by
  cases inc <;> rfl

theorem State.shotDone_book (v : Verdict) (m : Option Nat) : (s.shotDone v m).book = s.book := by
  unfold State.shotDone
  split <;> rfl

theorem State.endReading_book (r : Option Nat) : (s.endReading r).book = s.book := by
  cases r <;> rfl

theorem State.judgedBy_served (inc : Option Nat) : (s.judgedBy c e r inc v).served = s.served := by
  rw [State.judgedBy, State.served_of_station (State.shotDone_station ..), State.addMass_served]
  exact State.endReading_served r

/-- The verdict leaves the pending end of the order served (R94). -/
theorem State.judgedBy_pendingEnd (live : s.order? s.served = some o) (inc : Option Nat) :
    (s.judgedBy c e r inc v).pendingEndOf (s.judgedBy c e r inc v).served = o.pendingEnd := by
  have kept : (s.endReading r).order? s.served = some o := by rwa [State.order?, State.endReading_book]
  have flagged := State.order?_modOrder_self (f := fun o => { o with
    flags := o.flags.judged c e.flags.weigh inc }) kept (by intro; rfl)
  rw [State.judgedBy_served, State.pendingEndOf, State.judgedBy, State.order?, State.shotDone_book, State.addMass_book]
  exact congrArg (Option.bind · Order.pendingEnd) flagged

theorem State.verdictReading_of_automatic (current : s.current? = some (c, e)) (automatic : c.phase ≠ .manual) :
    s.verdictReading r = s.judge r := by
  rw [State.verdictReading, State.cur_of_current current]
  exact if_neg automatic

section Judge

variable (current : s.current? = some (c, e)) (live : s.order? s.served = some o)

include current live

/-- The verdict on an automatic phase by the pending end of its order (R83, R84, R94). -/
theorem State.judge_of_current :
    s.judge r =
      if o.pendingEnd.isSome then
        ((s.judgedBy c e r (increment c.start r) (verdictOf c e.flags.weigh (increment c.start r))).setEntry c.index
          (verdictOf c e.flags.weigh (increment c.start r)).entryState).enterClearing
      else match verdictOf c e.flags.weigh (increment c.start r), c.topupUsed with
        | .pass, _ => ((s.judgedBy c e r (increment c.start r) .pass).setEntry c.index .done).serveNext
        | .under, false => (s.judgedBy c e r (increment c.start r) .under).commandTopUp
        | v, _ => ((s.judgedBy c e r (increment c.start r) v).setEntry c.index v.entryState).fault v.faultKind
            (some c.index) (v.detail (c.judged + (increment c.start r).getD 0) c.target) := by
  have told : ((increment c.start r).map fun _ => c.judged + (increment c.start r).getD 0) =
      (increment c.start r).map fun d => c.judged + d := by
    cases increment c.start r <;> rfl
  have judged (v : Verdict) : ((((s.endReading r).setFlag (s.endReading r).served fun f =>
      f.judged c e.flags.weigh (increment c.start r)).addMass c.index (increment c.start r)).shotDone v
        ((increment c.start r).map fun _ => c.judged + (increment c.start r).getD 0)) =
      s.judgedBy c e r (increment c.start r) v := by
    rw [told, State.endReading_served, State.judgedBy]
  rw [State.judge, current]
  dsimp only
  rw [judged, State.judgedBy_pendingEnd live]
  refine if_congr Iff.rfl rfl ?_
  cases verdictOf c e.flags.weigh (increment c.start r) <;> cases c.topupUsed <;> rfl

end Judge

/-! ## The increment and the verdict -/

theorem judgeTarget_pass_iff {t : Target} {w : Nat} :
    judgeTarget (some t) w = .pass ↔ t.mass ≤ w + t.tol ∧ w ≤ t.mass + t.tol := by
  rw [judgeTarget, judgeMass]
  split_ifs <;> simp <;> omega

theorem judgeTarget_under_iff {t : Target} {w : Nat} :
    judgeTarget (some t) w = .under ↔ w + t.tol < t.mass := by
  rw [judgeTarget, judgeMass]
  split_ifs <;> simp <;> omega

theorem judgeTarget_over_iff {t : Target} {w : Nat} :
    judgeTarget (some t) w = .over ↔ t.mass + t.tol < w := by
  rw [judgeTarget, judgeMass]
  split_ifs <;> simp <;> omega

theorem verdictOf_of_short (weigh : Bool) (inc : Option Nat) (present : c.countPresent = true)
    (short : c.counted < c.strokes.sum) : verdictOf c weigh inc = .stall :=
  if_pos (by simp [CurrentEntry.countShort, present, short])

section Counted

variable (counted : c.countPresent = false ∨ c.strokes.sum ≤ c.counted)

include counted

theorem CurrentEntry.countShort_of_counted : ¬ c.countShort = true := by
  rcases counted with absent | enough
  · simp [CurrentEntry.countShort, absent]
  · simp [CurrentEntry.countShort, enough]

theorem verdictOf_of_mass (weigh : Bool) (d : Nat) :
    verdictOf c weigh (some d) = judgeTarget c.target (c.judged + d) :=
  if_neg (CurrentEntry.countShort_of_counted counted)

theorem verdictOf_of_count (weigh : Bool) :
    verdictOf c weigh none = if c.countPresent then (if weigh then .unweighed else .pass) else .sensor :=
  if_neg (CurrentEntry.countShort_of_counted counted)

end Counted

/-! ## The top-up -/

/-- The top-up of the phase on a canister: what it gives, and whether the rest goes to the hand (R36, R37). -/
def State.topUpAdds (s : State) (e : Entry) (up : TopUp) : Bool :=
  up.reduced && decide (0 < up.rest) && !s.hasAddition e.line

/-- The entries of the plan with a top-up commanded (R37, R85). -/
def State.toppedEntries (s : State) (q : PlanContext) (c : CurrentEntry) (e : Entry) (k : Canister) (up : TopUp) :
    List Entry :=
  q.entries.set c.index { e with
    topup := e.topup + up.steps, state := .active, additionGiven := e.additionGiven || s.topUpAdds e up } ++
    if s.topUpAdds e up then [s.additionEntry e (if k.holdsCode e.code then k.rho else e.rho) up.rest] else []

/-- The phase of a commanded top-up (R85). -/
def State.toppedPhase (s : State) (c : CurrentEntry) (e : Entry) (k : Canister) (t : Target) (up : TopUp) :
    CurrentEntry :=
  { c with
    phase := .topup, target := some (c.topUpTarget t up (s.topUpAdds e up)).1, strokes := strokesOf up.steps k.c
    ended := 0, counted := 0, delivered := 0, countPresent := true, topupUsed := true
    lowered := (c.topUpTarget t up (s.topUpAdds e up)).2 }

/-- The state of a commanded top-up, before it is served (R85). -/
def State.topped (s : State) (q : PlanContext) (c : CurrentEntry) (e : Entry) (k : Canister) (t : Target)
    (up : TopUp) : State :=
  { s with station := { s.station with
    resume := none, plan := some { q with entries := s.toppedEntries q c e k up }
    cur := some (s.toppedPhase c e k t up) } }

/-- The entry a top-up is commanded for (R85). -/
def State.topEntry (s : State) (i : Nat) (up : TopUp) (adds : Bool) : State :=
  s.modEntry i fun e => { e with
    topup := e.topup + up.steps, state := .active, additionGiven := e.additionGiven || adds }

section TopUp

variable {p : Position} {t : Target} {q : PlanContext} {up : TopUp} {k : Canister}

/-- The state of a commanded top-up, reached record by record (R37, R85). -/
theorem State.topped_eq (cur : s.station.cur = some c) (plan : s.station.plan = some q)
    (entry : q.entries[c.index]? = some e) :
    s.topped q c e k t up = (State.modStation (
      if s.topUpAdds e up then
        (s.topEntry c.index up (s.topUpAdds e up)).modPlan fun q => { q with
          entries := q.entries ++ [(s.topEntry c.index up (s.topUpAdds e up)).additionEntry e
            (if k.holdsCode e.code then k.rho else e.rho) up.rest] }
      else s.topEntry c.index up (s.topUpAdds e up))
      fun st => { st with resume := none }).modCur fun x => { x with
        phase := .topup, target := some (c.topUpTarget t up (s.topUpAdds e up)).1, strokes := strokesOf up.steps k.c
        ended := 0, counted := 0, delivered := 0, countPresent := true, topupUsed := true
        lowered := (c.topUpTarget t up (s.topUpAdds e up)).2 } := by
  rw [State.topEntry, State.modEntry_of_entry plan entry, State.topped, State.toppedEntries, State.toppedPhase]
  cases s.topUpAdds e up
  · simp only [Bool.false_eq_true, if_false, State.modCur, State.modStation, cur, Option.map_some, List.append_nil]
  · simp only [if_true, State.modPlan, State.modCur, State.modStation, cur, Option.map_some]
    rfl

/-- The top-up by its steps (R36, R37, R85). -/
theorem State.commandTopUp_of_current (cur : s.station.cur = some c) (plan : s.station.plan = some q)
    (entry : q.entries[c.index]? = some e) (pos : e.pos = some p) (target : c.target = some t)
    (tops : s.canisters[p].topUp e.code (t.mass - c.judged) = up) :
    s.commandTopUp =
      if up.steps = 0 then
        if s.topUpAdds e up then
          (((s.topped q c e s.canisters[p] t up).setEntry c.index .done).shotDone .pass (some c.judged)).serveNext
        else ((s.topped q c e s.canisters[p] t up).setEntry c.index .failed).fault .under (some c.index)
          (.mass c.judged (some (c.topUpTarget t up (s.topUpAdds e up)).1))
      else (s.topped q c e s.canisters[p] t up).beginPhase := by
  have current : s.current? = some (c, e) := State.current?_iff.2 ⟨cur, q, plan, entry⟩
  have adds : (up.reduced && decide (0 < up.rest) && !s.hasAddition e.line) = s.topUpAdds e up := rfl
  rw [State.commandTopUp, current]
  dsimp only
  rw [pos, target]
  dsimp only
  rw [tops, adds, State.topped_eq cur plan entry]
  rfl

theorem Canister.topUp_of_held (code : k.code = e.code) (configured : e.code ≠ 0) (deficit : Nat) :
    k.topUp e.code deficit = topUpOf k deficit :=
  if_pos (by simp [Canister.holdsCode, Canister.configured, code, configured])

theorem topUpOf_of_fitting {deficit full : Nat}
    (isFull : full = max k.m (halfUp (deficit * 1000000) (k.rho * k.d))) (fits : full * k.d ≤ k.level - k.floor) :
    topUpOf k deficit = { steps := full, rest := 0, reduced := false } := by
  subst isFull
  exact if_pos fits

theorem topUpOf_of_reduced {deficit full steps : Nat}
    (isFull : full = max k.m (halfUp (deficit * 1000000) (k.rho * k.d))) (excess : k.level - k.floor < full * k.d)
    (isSteps : steps = if (k.level - k.floor) / k.d < k.m then 0 else (k.level - k.floor) / k.d) :
    topUpOf k deficit =
      { steps := steps, rest := deficit - halfUp (steps * k.d * k.rho) 1000000, reduced := true } := by
  subst isFull isSteps
  exact if_neg (not_le.2 excess)

theorem State.topUpAdds_of_reduced (plan : s.station.plan = some q) (reduced : up.reduced = true) :
    s.topUpAdds e up =
      (decide (0 < up.rest) && !q.entries.any fun x => x.flags.topupManual && x.line == e.line) := by
  have given : s.hasAddition e.line = q.entries.any fun x => x.flags.topupManual && x.line == e.line := by
    rw [State.hasAddition, plan]
  rw [State.topUpAdds, reduced, given, Bool.true_and]

theorem State.topUpAdds_of_full (full : up.reduced = false) : s.topUpAdds e up = false := by
  rw [State.topUpAdds, full, Bool.false_and, Bool.false_and]

/-- The state of an entry set after the entry was written and others appended. -/
theorem State.setEntry_of_set {i : Nat} {a : Entry} {rest : List Entry}
    (plan : s.station.plan = some { q with entries := q.entries.set i a ++ rest }) (inside : i < q.entries.length)
    (st : EntryState) :
    s.setEntry i st = { s with station := { s.station with
      plan := some { q with entries := q.entries.set i { a with state := st } ++ rest } } } := by
  have long : i < (q.entries.set i a).length := by simpa using inside
  have taken : (q.entries.set i a ++ rest)[i]? = some a := by
    rw [List.getElem?_append_left long, List.getElem?_set_self inside]
  rw [State.setEntry, State.modEntry_of_entry plan taken]
  dsimp only
  rw [List.set_append_left _ _ long, List.set_set]

/-- The hand's addition for the rest of a reduced top-up (R37). -/
theorem State.additionEntry_eq (rho rest : Nat) :
    s.additionEntry e rho rest = {
      round := e.round, line := e.line, code := e.code, pos := none, mark := 0, d := 0, rho := 0, steps := 0
      strokes := 0, volume := halfUp (rest * 1000000) rho, mass := some rest
      tol := max s.settings.tolAbs (halfUp (rest * s.settings.tolPm) 1000)
      flags := { manual := true, topupManual := true }, state := .pending } := rfl

theorem State.topped_of_full (target : c.target = some t) (full : Nat) :
    s.topped q c e k t { steps := full, rest := 0, reduced := false } = { s with station := { s.station with
      resume := none
      plan := some { q with entries := q.entries.set c.index { e with topup := e.topup + full, state := .active } }
      cur := some { c with
        phase := .topup, strokes := strokesOf full k.c, ended := 0, counted := 0, delivered := 0
        countPresent := true, topupUsed := true } } } := by
  have adds : s.topUpAdds e { steps := full, rest := 0, reduced := false } = false := State.topUpAdds_of_full rfl
  simp only [State.topped, State.toppedEntries, State.toppedPhase, adds, CurrentEntry.topUpTarget, Bool.or_false,
    Bool.false_eq_true, if_false, List.append_nil, target]

theorem Canister.holdsCode_of_code (code : k.code = e.code) (configured : e.code ≠ 0) :
    k.holdsCode e.code = true := by
  simp [Canister.holdsCode, Canister.configured, code, configured]

theorem CurrentEntry.topUpTarget_of_reduced (reduced : up.reduced = true) (adds : Bool) :
    c.topUpTarget t up adds =
      ({ t with mass := if adds then t.mass - up.rest else t.mass + c.lowered },
        if adds then c.lowered + up.rest else 0) := by
  cases adds
  · exact (if_neg Bool.false_ne_true).trans (if_pos reduced)
  · rfl

end TopUp

/-- Settles O57: the verdict by the pending end, the top-up by its steps, then the verdict by its evidence. -/
theorem verdictByEvidence : Obligations.VerdictByEvidence := by
  refine ⟨?verdicts, ?topUps, fun a b => ?increments, fun a => ⟨?noStop, rfl⟩, fun c weigh inc =>
    ⟨verdictOf_of_short weigh inc, fun counted => ⟨fun d t increment target => ?masses,
      fun none_formed present => ?counts, fun none_formed absent => ?none⟩⟩⟩
  case verdicts =>
    intro s u r inc c e o v current automatic live isInc isVerdict judged
    subst isInc isVerdict
    have judges := State.judge_of_current (r := r) current live
    rw [State.verdictReading_of_automatic current automatic, judges, judged]
    refine ⟨fun st ended row => ?cleared, fun unended => ?judged⟩
    case cleared =>
      have state : (verdictOf c e.flags.weigh (increment c.start r)).entryState = st := by
        simp only [List.mem_cons, Prod.mk.injEq, List.not_mem_nil, or_false] at row
        rcases row with ⟨v, rfl⟩ | ⟨v, rfl⟩ | ⟨v, rfl⟩ | ⟨v, rfl⟩ | ⟨v, rfl⟩ | ⟨v, rfl⟩ <;> rw [v] <;> rfl
      rw [if_pos (Option.isSome_iff_ne_none.2 ended), state]
      rfl
    case judged =>
      rw [if_neg (by simp [unended])]
      refine ⟨fun pass => ?pass, fun under fresh => ?topUp, fun under used => ?under, fun k st d row => ?others⟩
      case pass => rw [pass]; rfl
      case topUp => rw [under, fresh]; rfl
      case under => rw [under, used]; rfl
      case others =>
        simp only [List.mem_cons, Prod.mk.injEq, List.not_mem_nil, or_false] at row
        rcases row with ⟨v, rfl, rfl, rfl⟩ | ⟨v, rfl, rfl, rfl⟩ | ⟨v, rfl, rfl, rfl⟩ | ⟨v, rfl, rfl, rfl⟩ <;>
          rw [v] <;> rfl
  case topUps =>
    intro s c e p t q k full steps rest adds current pos target plan canister code configured isFull
    obtain ⟨cur, q', plan', entry⟩ := State.current?_iff.1 current
    obtain rfl := Option.some.inj (plan.symm.trans plan')
    subst canister
    have held := Canister.topUp_of_held code configured (t.mass - c.judged)
    refine ⟨fun fits positive => ?full, fun excess isSteps isRest isAdds => ?reduced⟩
    case full =>
      have tops := held.trans (topUpOf_of_fitting isFull fits)
      rw [State.commandTopUp_of_current cur plan entry pos target tops, if_neg positive, State.topped_of_full target]
    case reduced =>
      have tops := held.trans (topUpOf_of_reduced isFull excess isSteps)
      rw [← isRest] at tops
      have given := State.topUpAdds_of_reduced (e := e) plan
        (up := { steps := steps, rest := rest, reduced := true }) rfl
      rw [← isAdds] at given
      have commanded := State.commandTopUp_of_current cur plan entry pos target tops
      have holds := Canister.holdsCode_of_code code configured
      have inside : c.index < q.entries.length := (List.getElem?_eq_some_iff.1 entry).1
      refine ⟨fun positive => ?begun, fun none_left added => ?done, fun none_left unadded => ?failed⟩
      case begun =>
        rw [commanded, if_neg positive]
        simp only [State.topped, State.toppedEntries, State.toppedPhase, given, holds, if_true, State.additionEntry_eq,
          CurrentEntry.topUpTarget_of_reduced (up := { steps := steps, rest := rest, reduced := true }) rfl]
      case done =>
        rw [commanded, if_pos none_left, given, if_pos added, State.setEntry_of_set rfl inside,
          State.setEntry_of_set rfl inside]
        subst none_left
        simp only [State.topped, State.toppedPhase, given, added, holds, if_true, State.additionEntry_eq, Bool.or_true,
          CurrentEntry.topUpTarget_of_reduced (up := { steps := 0, rest := rest, reduced := true }) rfl, strokesOf_zero,
          Nat.add_zero]
      case failed =>
        rw [commanded, if_pos none_left, given, if_neg (by simp [unadded]), State.setEntry_of_set rfl inside]
        subst none_left
        simp only [State.topped, State.toppedPhase, given, unadded, Bool.or_false, Bool.false_eq_true, if_false,
          CurrentEntry.topUpTarget_of_reduced (up := { steps := 0, rest := rest, reduced := true }) rfl, strokesOf_zero,
          List.append_nil, Nat.add_zero]
  case increments =>
    rw [increment]
    split_ifs with before
    · rfl
    · rw [Nat.sub_eq_zero_of_le (by omega)]
  case noStop => cases a <;> rfl
  case masses =>
    rw [increment, verdictOf_of_mass counted, target]
    exact ⟨judgeTarget_pass_iff, judgeTarget_under_iff, judgeTarget_over_iff⟩
  case counts => rw [none_formed, verdictOf_of_count counted, if_pos present]
  case none => rw [none_formed, verdictOf_of_count counted, if_neg (by simp [absent])]

end Sys2Proof.Machine
end

section
/-! A station in PAUSED_HOLD begins its resume point (O46). -/

namespace Sys2Proof.Machine

variable {s : State} {o : Order} {q : PlanContext} {e : Entry} {i : Nat}

/-! ## The resume point begun -/

/-- The station as it leaves PAUSED_HOLD, its resume point taken. -/
def State.unpaused (s : State) : State := s.modStation fun st => { st with resume := none }

theorem exec_resume_of_paused {r : ResumePoint} (working : s.supply.warned = false) (allowed : s.startsAllowed = true)
    (paused : s.station.state = .pausedHold) (resume : s.station.resume = some r) :
    exec .dispenseResumeOperation s = .next (s.resumeAt r).finish := by
  refine (State.command_of_working working State.resumeStation).trans ?_
  rw [State.resumeStation, if_pos ⟨paused, allowed⟩, resume]

theorem exec_resume_of_begun {r : ResumePoint} {u : State} (working : s.supply.warned = false)
    (allowed : s.startsAllowed = true) (paused : s.station.state = .pausedHold) (resume : s.station.resume = some r)
    (begun : s.resumeAt r = u) : exec .dispenseResumeOperation s = .next u.finish := by
  rw [exec_resume_of_paused working allowed paused resume, begun]

theorem State.settle_of_ready (sound : s.weigh.fault = false) (present : s.station.present = true)
    (why : SettlePurpose) (st : StationState) (absent : State → State) :
    s.settle why st absent = { s with
      station := { s.station with state := st, settleFor := why }
      weigh := { s.weigh with settling := true, window := s.settings.window, span := [] } } := by
  have reads : ¬ (s.modStation fun x => { x with state := st, settleFor := why }).noReading = true := by
    simp [State.noReading, sound, present]
  exact if_neg reads

/-! ## The next entry served -/

section ServeNext

variable (plan : s.station.plan = some q) (whole : ∀ x ∈ q.entries, x.state ≠ .partialShot)

include plan whole

/-- With no entry PARTIAL the closing of empty ones changes nothing (R69). -/
theorem State.closeEmpty_of_whole :
    (s.modPlan fun p => { p with entries := p.entries.map Entry.closeIfEmpty }) = s := by
  have kept : q.entries.map Entry.closeIfEmpty = q.entries :=
    List.map_congr_left (g := id) (fun x hx => if_neg fun both => whole x hx both.1) |>.trans (List.map_id _)
  have same : s.station.plan.map (fun p => { p with entries := p.entries.map Entry.closeIfEmpty }) =
      s.station.plan := by
    rw [plan, Option.map_some, kept]
  rw [State.modPlan, State.modStation, same]

theorem State.serveNext_of_entry (live : s.order? s.served = some o) (next : q.nextEntry = some i)
    (allowed : s.startsAllowed = true) : s.serveNext = s.serveEntry i := by
  have fresh := State.readyPlan_of_fresh s o q (q.entries.length + 1) fun x hx partly => whole x hx partly.1
  rw [State.serveNext, State.closeEmpty_of_whole plan whole]
  simp only [live, plan, next, allowed, fresh, Option.isNone_some, Bool.not_true, Bool.false_eq_true, if_false,
    State.withPlan_self plan]
  rw [State.serveReady, plan, Option.bind_some, next]

theorem State.serveNext_of_none (live : s.order? s.served = some o) (none_left : q.nextEntry = none) :
    s.serveNext = s.completeRound := by
  rw [State.serveNext, State.closeEmpty_of_whole plan whole]
  simp only [live, plan, none_left, Option.isNone_none, if_true]

end ServeNext

theorem findIdx?_of_first {α : Type} {p : α → Bool} {before after : List α} {x : α} (first : ∀ y ∈ before, p y = false)
    (found : p x = true) : (before ++ x :: after).findIdx? p = some before.length := by
  have unfound : before.findIdx? p = none := List.findIdx?_eq_none_iff.2 first
  simp [List.findIdx?_append, List.findIdx?_cons, unfound, found]

theorem set_of_middle {α : Type} (before after : List α) (x y : α) :
    (before ++ x :: after).set before.length y = before ++ y :: after := by
  simp

theorem State.servedLidded_of_live (live : s.order? s.served = some o) : s.servedLidded = o.flags.lidded := by
  rw [State.servedLidded, live]

/-- An entry as it is begun (R78). -/
def Entry.begun (e : Entry) : Entry := { e with state := .active, owed := none }

/-- The station with a MANUAL entry begun, before its phase (R88). -/
def State.manualBegun (s : State) (q : PlanContext) (i : Nat) (e : Entry) : State :=
  { s with station := { s.station with
    resume := none, plan := some { q with entries := q.entries.set i e.begun }, cur := some (manualRecord i e) } }

section ServeEntry

variable (plan : s.station.plan = some q) (entry : q.entries[i]? = some e) (unlidded : s.servedLidded = false)

include plan entry unlidded

/-- An automatic entry is begun by its move (R78). -/
theorem State.serveEntry_of_automatic {p : Position} (automatic : e.flags.manual = false) (pos : e.pos = some p) :
    s.serveEntry i = ({ s with station := { s.station with
      resume := none
      plan := some { q with entries := q.entries.set i e.begun }
      cur := some (s.shotRecord i e s.canisters[p]) } } : State).beginMove p := by
  have begun : s.modEntry i Entry.begun = s.modEntry i fun e => { e with state := .active, owed := none } := rfl
  rw [State.serveEntry, State.entry?_of_plan plan, entry]
  dsimp only
  rw [← begun, State.modEntry_of_entry plan entry, unlidded, automatic, if_neg Bool.false_ne_true,
    if_neg Bool.false_ne_true, pos]
  rfl

/-- A MANUAL entry is begun by its phase (R88). -/
theorem State.serveEntry_of_manual (manual : e.flags.manual = true) :
    s.serveEntry i = (s.manualBegun q i e).beginPhase := by
  have begun : s.modEntry i Entry.begun = s.modEntry i fun e => { e with state := .active, owed := none } := rfl
  rw [State.serveEntry, State.entry?_of_plan plan, entry]
  dsimp only
  rw [← begun, State.modEntry_of_entry plan entry, unlidded, manual, if_neg Bool.false_ne_true, if_pos rfl]
  rfl

end ServeEntry

/-- An automatic entry away from the carousel's position is begun by a move (R55, R78). -/
theorem State.serveEntry_of_away {p : Position} (plan : s.station.plan = some q) (entry : q.entries[i]? = some e)
    (unlidded : s.servedLidded = false) (automatic : e.flags.manual = false) (pos : e.pos = some p)
    (homed : s.positioner.state = .homed) (away : s.positioner.position ≠ p) :
    s.serveEntry i = { s with
      station := { s.station with
        state := .moving, resume := none
        plan := some { q with entries := q.entries.set i e.begun }
        cur := some (s.shotRecord i e s.canisters[p]) }
      positioner := { s.positioner with
        state := .moving, move := some (moveRecord s.positioner.position p) } } := by
  rw [State.serveEntry_of_automatic plan entry unlidded automatic pos, State.beginMove, if_neg (by simp [homed])]
  exact if_neg away

/-! ## The round completed -/

theorem State.changeOrder_notices {n : Nat} (live : s.order? n = some o) (st : OrderState) :
    (s.changeOrder n st).notices = (if o.state = st then [] else
      [NoticeBody.orderState n st (o.tin.getD 0) o.pendingEnd]).foldl queueNotice s.notices := by
  by_cases same : o.state = st
  · rw [State.changeOrder, live]
    simp only [same, if_true, List.foldl_nil]
  · rw [State.changeOrder_of_ne live same, if_neg same]
    rfl

theorem State.offerTin_of_live (live : s.order? s.served = some o) :
    s.offerTin = { s with
      station := { s.station with state := .complete, cur := none, resume := none }
      conveyor := if o.route.mix = true then { s.conveyor with stationRequest := true } else s.conveyor
      lidder := if o.route.mix = true then s.lidder
        else { s.lidder with requesters := s.lidder.requesters ++ [.dispense] } } := by
  have kept : (s.modStation fun st => { st with state := .complete, cur := none, resume := none }).order?
      (s.modStation fun st => { st with state := .complete, cur := none, resume := none }).served = some o := live
  rw [State.offerTin]
  dsimp only
  rw [kept]
  dsimp only
  by_cases mix : o.route.mix = true
  · simp only [mix, if_true]
    rfl
  · simp only [mix]
    rfl

/-- The end of a round: its volume summed, the order DISPENSED and the tin offered on (R7, R91). -/
theorem State.completeRound_of_live (plan : s.station.plan = some q) (live : s.order? s.served = some o)
    (underway : o.state ∈ [OrderState.dispensing, .manual]) :
    s.completeRound = { s with
      book := s.completeRound.book
      notices := queueNotice s.notices (.orderState s.served .dispensed (o.tin.getD 0) o.pendingEnd)
      station := { s.station with state := .complete, cur := none, resume := none }
      conveyor := if o.route.mix = true then { s.conveyor with stationRequest := true } else s.conveyor
      lidder := if o.route.mix = true then s.lidder
        else { s.lidder with requesters := s.lidder.requesters ++ [.dispense] } } ∧
    s.completeRound.order? s.served = some { o.roundDone q.roundVolume with state := .dispensed } ∧
    ∀ m, m ≠ s.served → s.completeRound.order? m = s.order? m := by
  have other : (o.roundDone q.roundVolume).state ≠ .dispensed := by
    rcases List.mem_pair.1 underway with state | state <;> simp [Order.roundDone, state]
  have done := State.order?_modOrder_self (f := fun o => o.roundDone q.roundVolume) live (by intro; rfl)
  have changed := State.order?_changeOrder_self done .dispensed
  have completes : s.completeRound =
      ((s.modOrder s.served fun o => o.roundDone q.roundVolume).changeOrder s.served .dispensed).offerTin := by
    rw [State.completeRound, plan]
  have station : ((s.modOrder s.served fun o => o.roundDone q.roundVolume).changeOrder s.served .dispensed).station =
      s.station := by rw [State.changeOrder_eq]; rfl
  have offered := State.offerTin_of_live ((congrArg _ (State.served_of_station station)).trans changed)
  refine ⟨?_, ?_, fun m elsewhere => ?_⟩
  · rw [completes, offered, State.changeOrder_of_ne done other]
    rfl
  · rw [completes, offered]
    exact changed
  · rw [completes, offered]
    exact (State.order?_changeOrder_of_ne elsewhere _).trans
      (State.order?_modOrder_of_ne (by intro; rfl) elsewhere)

/-! ## A manual step issued -/

section Manual

variable {c : CurrentEntry}

theorem State.issueManual_of_whole (current : s.current? = some (c, e)) :
    s.issueManual false = (s.notify (.manualStep s.served c.index e.code e.volume (e.mass.getD 0) e.round)).goto
      .awaitManual := by
  rw [State.issueManual, current]

/-- The phase of a MANUAL entry from its start reading: MANUAL_STEP, and the order MANUAL (R88). -/
theorem State.startPhase_of_manual (cur : s.station.cur = some c) (manual : c.phase = .manual) (start : Option Nat) :
    s.startPhase start = (({ s with station := { s.station with
      cur := some { c with start := start }
      tin := s.station.tin.map fun t => { t with entryStart := start } } } : State).issueManual
        (decide (0 < c.carried))).changeOrder s.served .manual := by
  rw [State.startPhase, cur]
  simp only [manual, reduceCtorEq, if_true, if_false, State.modCur, State.modStation, cur, Option.map_some]
  rfl

theorem State.beginPhase_of_needed (needed : s.readingNeeded = true) : s.beginPhase = s.settlePhase := if_pos needed

theorem State.beginPhase_of_read (read : s.readingNeeded = false) : s.beginPhase = s.startPhase s.lastReading :=
  if_neg (by simp [read])

theorem State.readingNeeded_of_manual (cur : s.station.cur = some c) (manual : c.phase = .manual) :
    s.readingNeeded = (s.station.freshNeeded || s.lastReading.isNone) := by
  simp only [State.readingNeeded, cur, manual, beq_self_eq_true, Bool.true_and]

/-- What MANUAL_STEP asks for: the whole entry, or the deficit of one begun (R88, R89). -/
theorem State.issueManual_of_record {m v w : Nat} (current : s.current? = some (c, e)) (judged : c.judged = m)
    (target : c.target = e.mass.map fun t => { mass := t, tol := e.tol })
    (asks : m = 0 ∧ v = e.volume ∧ w = e.mass.getD 0 ∨
      ∃ t rho, 0 < m ∧ e.mass = some t ∧ s.densityOf e.code = some rho ∧ w = t - m ∧
        v = halfUp (w * 1000000) rho) :
    s.issueManual (decide (0 < m)) =
      (s.notify (.manualStep s.served c.index e.code v w e.round)).goto .awaitManual := by
  rcases asks with ⟨rfl, rfl, rfl⟩ | ⟨t, rho, begun, mass, density, rfl, rfl⟩
  · exact State.issueManual_of_whole current
  · rw [mass, Option.map_some] at target
    rw [decide_eq_true begun, State.issueManual_of_deficit current target density, judged]
    rfl

/-- The station with a MANUAL entry begun from a reading (R78, R88). -/
def State.manualRead (s : State) (q : PlanContext) (i : Nat) (e : Entry) (x : TinContext) (r : Nat) : State :=
  { s with station := { s.station with
    resume := none, tin := some { x with entryStart := some r }
    plan := some { q with entries := q.entries.set i e.begun }
    cur := some { manualRecord i e with start := some r } } }

/-- A MANUAL entry with a reading on the tin: its MANUAL_STEP, and the order MANUAL (R88). -/
theorem State.manualBegun_step {x : TinContext} {r m v w : Nat} (entry : q.entries[i]? = some e)
    (fresh : s.station.freshNeeded = false) (tin : s.station.tin = some x) (last : x.last = some r)
    (measured : m = e.measured.getD 0)
    (asks : m = 0 ∧ v = e.volume ∧ w = e.mass.getD 0 ∨
      ∃ t rho, 0 < m ∧ e.mass = some t ∧ s.densityOf e.code = some rho ∧ w = t - m ∧
        v = halfUp (w * 1000000) rho) :
    (s.manualBegun q i e).beginPhase = (((s.manualRead q i e x r).notify (.manualStep s.served i e.code v w
      e.round)).goto .awaitManual).changeOrder s.served .manual := by
  have reading : (s.manualBegun q i e).lastReading = some r := by
    rw [State.lastReading]
    exact (congrArg (Option.bind · TinContext.last) tin).trans last
  have read : (s.manualBegun q i e).readingNeeded = false := by
    rw [State.readingNeeded_of_manual rfl rfl, reading]
    exact congrArg (· || false) fresh
  have started := State.startPhase_of_manual (s := s.manualBegun q i e) (c := manualRecord i e) rfl rfl (some r)
  have inside : i < q.entries.length := (List.getElem?_eq_some_iff.1 entry).1
  have current : (s.manualRead q i e x r).current? = some ({ manualRecord i e with start := some r }, e.begun) :=
    State.current?_iff.2 ⟨rfl, _, rfl, List.getElem?_set_self inside⟩
  have issued := State.issueManual_of_record (v := v) (w := w) current measured.symm rfl asks
  have taken : ({ s.manualBegun q i e with station := { (s.manualBegun q i e).station with
      cur := some { manualRecord i e with start := some r }
      tin := (s.manualBegun q i e).station.tin.map fun t => { t with entryStart := some r } } } : State) =
      s.manualRead q i e x r := by
    have held : (s.manualBegun q i e).station.tin = some x := tin
    rw [held]
    rfl
  have carried : (manualRecord i e).carried = m := measured.symm
  rw [State.beginPhase_of_read read, reading, started, taken, carried, issued]
  rfl

/-- A MANUAL entry that needs a reading of its own settles first (R88, R99). -/
theorem State.manualBegun_settle (needed : s.station.freshNeeded = true ∨ s.lastReading = none)
    (sound : s.weigh.fault = false) (present : s.station.present = true) :
    (s.manualBegun q i e).beginPhase = { s.manualBegun q i e with
      station := { (s.manualBegun q i e).station with state := .settling, settleFor := .phaseStart }
      weigh := { s.weigh with settling := true, window := s.settings.window, span := [] } } := by
  have needs : (s.manualBegun q i e).readingNeeded = true := by
    rw [State.readingNeeded_of_manual rfl rfl, Bool.or_eq_true, Option.isNone_iff_eq_none]
    exact needed
  rw [State.beginPhase_of_needed needs]
  exact State.settle_of_ready (s := s.manualBegun q i e) sound present _ _ _

end Manual

/-! ## The next entry -/

theorem EntryState.unfinished_iff {st : EntryState} :
    st.unfinished = true ↔ st = .pending ∨ st = .active ∨ st = .partialShot := by
  cases st <;> simp [EntryState.unfinished]

theorem EntryState.holdsPosition_iff {st : EntryState} :
    st.holdsPosition = true ↔ st = .pending ∨ st = .active := by
  cases st <;> simp [EntryState.holdsPosition]

section NextEntry

variable {before after : List Entry}

theorem PlanContext.nextEntry_of_automatic (split : q.entries = before ++ e :: after)
    (first : ∀ x ∈ before, x.flags.manual = true ∨ x.state.unfinished = false) (automatic : e.flags.manual = false)
    (pending : e.state = .pending) : q.nextEntry = some before.length := by
  have found := findIdx?_of_first (p := fun e : Entry => !e.flags.manual && e.state.unfinished) (after := after)
    (fun x hx => by rcases first x hx with manual | closed <;> simp [*]) (x := e)
    (by simp [automatic, pending, EntryState.unfinished])
  rw [PlanContext.nextEntry, split, found]

/-- No automatic entry is left to serve. -/
def PlanContext.NoneAutomatic (q : PlanContext) : Prop :=
  ∀ x ∈ q.entries, x.flags.manual = false → x.state.unfinished = false

theorem PlanContext.nextEntry_of_noneAutomatic (served : q.NoneAutomatic) :
    q.nextEntry = q.entries.findIdx? fun e => e.flags.manual && e.state.holdsPosition := by
  have unfound : q.entries.findIdx? (fun e => !e.flags.manual && e.state.unfinished) = none := by
    refine List.findIdx?_eq_none_iff.2 fun x hx => ?_
    cases manual : x.flags.manual
    · simp [served x hx manual]
    · rfl
  rw [PlanContext.nextEntry, unfound]

theorem PlanContext.nextEntry_of_manual (split : q.entries = before ++ e :: after) (served : q.NoneAutomatic)
    (first : ∀ x ∈ before, x.state.holdsPosition = false) (manual : e.flags.manual = true)
    (pending : e.state = .pending) : q.nextEntry = some before.length := by
  rw [PlanContext.nextEntry_of_noneAutomatic served, split]
  exact findIdx?_of_first (fun x hx => by simp [first x hx]) (by simp [manual, pending, EntryState.holdsPosition])

theorem PlanContext.nextEntry_of_closed
    (closed : ∀ x ∈ q.entries, x.state ∈ [EntryState.done, .skipped, .failed]) : q.nextEntry = none := by
  have open_none : ∀ x ∈ q.entries, x.state.unfinished = false ∧ x.state.holdsPosition = false := by
    intro x hx
    have ended := closed x hx
    simp only [List.mem_cons, List.not_mem_nil, or_false] at ended
    rcases ended with state | state | state <;> rw [state] <;> exact ⟨rfl, rfl⟩
  rw [PlanContext.nextEntry_of_noneAutomatic fun x hx _ => (open_none x hx).1]
  exact List.findIdx?_eq_none_iff.2 fun x hx => by simp [(open_none x hx).2]

end NextEntry

/-! ## The resumption -/

/-- Settles O46, resume point by resume point. -/
theorem stationResumesItsOperation : Obligations.StationResumesItsOperation := by
  refine ⟨fun s r x why working allowed paused resume => ⟨exec_resume_of_paused working allowed paused resume,
    fun row sound present => ?settles⟩,
    fun s o q before after e p working allowed paused resume plan split first whole live unlidded automatic pending
      undelivered untopped pos homed away => ?automatic,
    fun s o q working allowed paused resume plan live underway closed => ?completes,
    fun s o q before after e x m v w working allowed paused resume plan split served first manual pending live unlidded
      tin measured asks => ?manual,
    fun s c q o e p d working allowed paused resume cur plan entry live unlidded automatic active owed pos homed away =>
      ?again⟩
  case settles =>
    have settles (absent : State → State) := State.settle_of_ready (s := s.unpaused) sound present why x absent
    simp only [List.mem_cons, Prod.mk.injEq, List.not_mem_nil, or_false] at row
    refine exec_resume_of_begun working allowed paused resume ?_
    rcases row with ⟨rfl, rfl, rfl⟩ | ⟨rfl, rfl, rfl⟩ | ⟨rfl, rfl, rfl⟩
    · exact settles fun s => s.tareReading none
    · exact settles fun s => s.phaseReading none
    · exact settles fun s => s.verdictReading none
  case automatic =>
    have inside : q.entries[before.length]? = some e := by rw [split]; simp
    have partly : ∀ x ∈ q.entries, x.state ≠ .partialShot := by
      intro x hx
      rw [split] at hx
      rcases List.mem_append.1 hx with hx | hx
      · exact whole x (List.mem_append_left _ hx)
      · rcases List.mem_cons.1 hx with rfl | hx
        · simp [pending]
        · exact whole x (List.mem_append_right _ hx)
    have serves := State.serveNext_of_entry (s := s.unpaused) plan partly live
      (PlanContext.nextEntry_of_automatic split first automatic pending) allowed
    have begun := State.serveEntry_of_away (s := s.unpaused) plan inside
      ((State.servedLidded_of_live (s := s.unpaused) live).trans unlidded) automatic pos homed away
    rw [State.shotRecord, State.servedRemainder_of_pending _ pending, split, set_of_middle, untopped] at begun
    exact exec_resume_of_begun working allowed paused resume (serves.trans begun)
  case completes =>
    have partly : ∀ x ∈ q.entries, x.state ≠ .partialShot := fun x hx partly => by
      have ended := closed x hx
      simp [partly] at ended
    have serves := State.serveNext_of_none (s := s.unpaused) plan partly live (PlanContext.nextEntry_of_closed closed)
    obtain ⟨frame, record, others⟩ := State.completeRound_of_live (s := s.unpaused) plan live underway
    exact ⟨s.unpaused.completeRound, exec_resume_of_begun working allowed paused resume serves, frame, record, others⟩
  case manual =>
    have inside : q.entries[before.length]? = some e := by rw [split]; simp
    have none_automatic : q.NoneAutomatic := by
      intro x hx automatic
      obtain ⟨begun, waiting⟩ := served x hx
      rw [Bool.eq_false_iff, ne_eq, EntryState.unfinished_iff]
      simp only [List.mem_cons, List.not_mem_nil, or_false, not_or] at begun
      rintro (state | state | state)
      · exact waiting automatic state
      · exact begun.2 state
      · exact begun.1 state
    have partly : ∀ x ∈ q.entries, x.state ≠ .partialShot := fun x hx state => (served x hx).1 (by simp [state])
    have unheld : ∀ x ∈ before, x.state.holdsPosition = false := by
      intro x hx
      have begun := (served x (by rw [split]; exact List.mem_append_left _ hx)).1
      rw [Bool.eq_false_iff, ne_eq, EntryState.holdsPosition_iff]
      rintro (state | state)
      · exact first x hx state
      · exact begun (by simp [state])
    have serves := State.serveNext_of_entry (s := s.unpaused) plan partly live
      (PlanContext.nextEntry_of_manual split none_automatic unheld manual pending) allowed
    have begun := State.serveEntry_of_manual (s := s.unpaused) plan inside
      ((State.servedLidded_of_live (s := s.unpaused) live).trans unlidded) manual
    have middle : q.entries.set before.length e.begun = before ++ e.begun :: after := by rw [split, set_of_middle]
    subst measured
    refine ⟨fun r fresh last => ?step, fun needed sound present => ?settle⟩
    case step =>
      have issues := State.manualBegun_step (s := s.unpaused) inside fresh tin last rfl asks
      have held : (((s.unpaused.manualRead q before.length e x r).notify (.manualStep s.served before.length e.code v w
          e.round)).goto .awaitManual).order? s.served = some o := live
      refine ⟨_, exec_resume_of_begun working allowed paused resume ((serves.trans begun).trans issues), ?_,
        State.order?_changeOrder_self held .manual, fun n other => State.order?_changeOrder_of_ne other .manual⟩
      have home : s.unpaused.served = s.served := rfl
      rw [home, State.changeOrder_eq, State.changeOrder_notices held .manual, State.manualRead, middle]
      rfl
    case settle =>
      have settles := State.manualBegun_settle (s := s.unpaused) (q := q) (i := before.length) (e := e)
        (needed.imp id fun unread => (congrArg (Option.bind · TinContext.last) tin).trans unread) sound present
      refine exec_resume_of_begun working allowed paused resume (((serves.trans begun).trans settles).trans ?_)
      rw [State.manualBegun, middle]
      rfl
  case again =>
    have begun := State.serveEntry_of_away (s := s.unpaused) plan entry
      ((State.servedLidded_of_live (s := s.unpaused) live).trans unlidded) automatic pos homed away
    have serves : s.resumeAt .serve = s.unpaused.serveEntry c.index := by
      have index : s.unpaused.curIndex = some c.index := by
        rw [State.curIndex]
        exact congrArg (Option.map CurrentEntry.index) cur
      rw [State.resumeAt, ← State.unpaused, index]
    have kept : e.begun = { e with owed := none } := by rw [Entry.begun, ← active]
    rw [State.shotRecord, State.servedRemainder_of_owed _ (by simp [active]) owed, kept] at begun
    exact exec_resume_of_begun working allowed paused resume (serves.trans begun)

end Sys2Proof.Machine
end

section
/-! No stroke begins unless the stroke-start check is READY (O51): what leaves a station without a stroke so. -/

namespace Sys2Proof.Machine

/-- No stroke is in progress. -/
def State.Calm (s : State) : Prop := s.station.state ≠ .stroking

/-- The stroke in progress is one that the stroke-start check finds READY (R40, R58, R78, R79). -/
def State.Ready (s : State) : Prop :=
  ∃ x e p steps, s.current? = some (x, e) ∧ e.pos = some p ∧ x.strokes[x.ended]? = some steps ∧
    s.positioner.state = .homed ∧ s.positioner.position = p ∧ s.servedLidded = false ∧
    s.canisters[p].code = e.code ∧ e.code ≠ 0 ∧ s.canisters[p].seated = true ∧
    s.canisters[p].confirmed = true ∧ steps * s.canisters[p].d ≤ s.canisters[p].level - s.canisters[p].floor ∧
    s.canisters[p].drawing = true

/-- A stroke in progress, if there is one, is READY. -/
def State.Sound (s : State) : Prop := s.station.state = .stroking → s.Ready

namespace State.Calm

variable {s t u : State}

theorem sound (h : t.Calm) : t.Sound := fun stroking => absurd stroking h

/-- A change of anything but the station's state. -/
theorem frame (h : t.Calm) (same : u.station.state = t.station.state) : u.Calm := by rwa [Calm, same]

theorem ite {c : Prop} [Decidable c] (ht : t.Calm) (he : u.Calm) : (if c then t else u).Calm := by
  split
  · exact ht
  · exact he

/-! ## The notice queue and the book -/

theorem notify (h : t.Calm) {b : NoticeBody} : (t.notify b).Calm := h

theorem foldl_notify (h : t.Calm) {l : List NoticeBody} : (l.foldl State.notify t).Calm := by
  rw [State.foldl_notify]
  exact h

theorem modOrder (h : t.Calm) {n : Nat} {f : Order → Order} : (t.modOrder n f).Calm := h

theorem notifyOrder (h : t.Calm) {n : Nat} : (t.notifyOrder n).Calm := by
  unfold State.notifyOrder
  split
  · exact h
  · exact h

theorem changeOrder (h : t.Calm) {n : Nat} {st : OrderState} : (t.changeOrder n st).Calm :=
  h.frame (by rw [State.changeOrder_eq])

theorem setFlag (h : t.Calm) {n : Nat} {f : OrderFlags → OrderFlags} : (t.setFlag n f).Calm := h

theorem setRoute (h : t.Calm) {n : Nat} {f : Route → Route} : (t.setRoute n f).Calm := h

theorem setPendingEnd (h : t.Calm) {n : Nat} {e : PendingEnd} : (t.setPendingEnd n e).Calm := h

theorem hold (h : t.Calm) {n : Nat} {d : Dest} {k : FaultKind} {x : Bool} {i : Option Nat} :
    (t.hold n d k x i).Calm :=
  h.frame (by rw [State.hold_eq])

theorem unhold (h : t.Calm) {n : Nat} : (t.unhold n).Calm :=
  h.frame (by rw [State.unhold_eq])

theorem faultAtDest (h : t.Calm) {n : Nat} {d : Dest} {k : FaultKind} {x : Bool} : (t.faultAtDest n d k x).Calm :=
  h.hold

theorem freeOrder (h : t.Calm) {n : Nat} {r : EndReason} : (t.freeOrder n r).Calm :=
  h.frame (by rw [State.freeOrder_eq])

theorem reportLift (h : t.Calm) {n : Nat} : (t.reportLift n).Calm :=
  h.frame (by rw [State.reportLift_eq])

theorem assignTin (h : t.Calm) {n : Nat} : (t.assignTin n).Calm := h

/-! ## The line mode, stations, bays and records -/

theorem setMode (h : t.Calm) {m : LineMode} {p : Option PendingMode} : (t.setMode m p).Calm :=
  ite h h

theorem drawn (h : t.Calm) : t.drawn.Calm := h

theorem drawnInMotion (h : t.Calm) : t.drawnInMotion.Calm := ite h h

/-- A change of the station that leaves its state. -/
theorem modStation (h : t.Calm) {f : Station → Station} (same : (f t.station).state = t.station.state) :
    (t.modStation f).Calm := by
  rw [Calm, State.modStation_station, same]
  exact h

/-- A change of the station to another state than STROKING. -/
theorem moved {f : Station → Station} (other : (f t.station).state ≠ .stroking) :
    (t.modStation f).Calm :=
  other

theorem goto {st : StationState} (other : st ≠ .stroking) : (t.goto st).Calm := other

theorem modBay (h : t.Calm) {b : BayId} {f : Bay → Bay} : (t.modBay b f).Calm := by
  cases b
  · exact h
  · exact h

theorem modLidder (h : t.Calm) {f : Lidder → Lidder} : (t.modLidder f).Calm := h

theorem modLane (h : t.Calm) {l : Lane} {f : LaneRecord → LaneRecord} : (t.modLane l f).Calm := h

theorem setRecord (h : t.Calm) {d : Dest} {r : Option Transfer} : (t.setRecord d r).Calm := h

theorem abandonSettle (h : t.Calm) : t.abandonSettle.Calm := h

theorem holdWaiting (h : t.Calm) : t.holdWaiting.Calm := ite (moved (by nofun)) h

/-! ## The station's records, its faults and its clearing -/

theorem modPlan (h : t.Calm) {f : PlanContext → PlanContext} : (t.modPlan f).Calm := h

theorem modEntry (h : t.Calm) {i : Nat} {f : Entry → Entry} : (t.modEntry i f).Calm := h

theorem setEntry (h : t.Calm) {i : Nat} {st : EntryState} : (t.setEntry i st).Calm := h

theorem modCur (h : t.Calm) {f : CurrentEntry → CurrentEntry} : (t.modCur f).Calm := h

theorem modTin (h : t.Calm) {f : TinContext → TinContext} : (t.modTin f).Calm := h

theorem fault {k : FaultKind} {i : Option Nat} {x : FaultDetail} : (t.fault k i x).Calm := moved (by nofun)

theorem liftCleared : t.liftCleared.Calm := moved (by nofun)

theorem enterClearing : t.enterClearing.Calm := ite (moved (by nofun)) liftCleared

theorem waitCanister {p : Position} {code : Nat} {f : Finding} : (t.waitCanister p code f).Calm := by
  unfold State.waitCanister
  split
  · rename_i waiting
    simp [Calm, waiting.1]
  · exact notify (moved (by nofun))

theorem keepReading (h : t.Calm) {r : Option Nat} : (t.keepReading r).Calm := by
  cases r
  · exact h
  · exact h

theorem issueManual (h : t.Calm) {deficit : Bool} : (t.issueManual deficit).Calm := by
  unfold State.issueManual
  split
  · exact h
  · dsimp only
    split
    · split
      · exact goto (by nofun)
      · exact goto (by nofun)
    · exact goto (by nofun)

theorem offerTin : t.offerTin.Calm := by
  have complete : (t.goto .complete).Calm := goto (by nofun)
  unfold State.offerTin
  dsimp only
  split
  · exact complete.frame rfl
  · exact ite (complete.frame rfl) (complete.frame rfl)

theorem completeRound : t.completeRound.Calm := offerTin

theorem holdAt {r : ResumePoint} : (t.holdAt r).Calm := moved (by nofun)

theorem planFault {f : PlanFailure} : (t.planFault f).Calm := fault

theorem shotDone (h : t.Calm) {v : Verdict} {judged : Option Nat} : (t.shotDone v judged).Calm := by
  unfold State.shotDone
  split
  · exact h
  · exact h

theorem endReading (h : t.Calm) {r : Option Nat} : (t.endReading r).Calm := by
  cases r with
  | none => exact h
  | some => exact h

theorem addMass (h : t.Calm) {i : Nat} {inc : Option Nat} : (t.addMass i inc).Calm := by
  cases inc with
  | none => exact h
  | some => exact h

theorem needReading (h : t.Calm) : t.needReading.Calm := h

end State.Calm

end Sys2Proof.Machine
end
section
/-! A stroke that an operation of the station begins is READY (O51). -/

namespace Sys2Proof.Machine

variable {s t u : State}

namespace State.Sound

/-- A change of nothing that a stroke's readiness speaks of. -/
theorem frame (h : t.Sound) (same : (u.station, u.positioner, u.book, u.canisters) =
    (t.station, t.positioner, t.book, t.canisters)) : u.Sound := by
  simp only [Prod.mk.injEq] at same
  obtain ⟨station, positioner, book, canisters⟩ := same
  simp only [Sound, Ready, State.current?, State.entry?, State.servedLidded, State.order?, State.served, station,
    positioner, book, canisters]
  exact h

theorem ite {c : Prop} [Decidable c] (ht : t.Sound) (he : u.Sound) : (if c then t else u).Sound := by
  split
  · exact ht
  · exact he

end State.Sound

/-- A stroke begun on a position that the check has found READY (R79, R81). -/
theorem State.beginStroke_sound {c : CurrentEntry} {e : Entry} {p : Position} {n : Nat}
    (current : t.current? = some (c, e)) (pos : e.pos = some p) (stroke : c.strokes[c.ended]? = some n)
    (unlidded : t.servedLidded = false) (positioned : t.positioned p = true)
    (ready : t.canisters[p].finding e.code n = .ready) : (t.beginStroke p).Sound := by
  intro _
  obtain ⟨coded, code, seated, confirmed, level⟩ := Canister.finding_ready.1 ready
  obtain ⟨homed, place⟩ : t.positioner.state = .homed ∧ t.positioner.position = p := by
    simpa [State.positioned] using positioned
  have marked : (t.beginStroke p).canisters[p] = { t.canisters[p] with drawing := true } := by
    simp [State.beginStroke]
  refine ⟨c, e, p, n, current, pos, stroke, homed, place, unlidded, ?_⟩
  rw [marked]
  exact ⟨code, code ▸ coded, seated, confirmed, level, rfl⟩

/-- The stroke-start check of a stroke begins it only when it finds READY, and else leaves STROKING (R79). -/
theorem State.strokeCheck_sound {c : CurrentEntry} {e : Entry} {p : Position} {n : Nat}
    (current : t.current? = some (c, e)) (pos : e.pos = some p) (stroke : c.strokes[c.ended]? = some n) :
    t.strokeCheck.Sound := by
  unfold State.strokeCheck
  simp only [current, pos, stroke]
  split
  case isTrue => exact Calm.fault.sound
  case isFalse unlidded =>
    split
    case isTrue => exact Calm.fault.sound
    case isFalse positioned =>
      split
      case h_1 ready =>
        exact State.beginStroke_sound current pos stroke (by simpa using unlidded) (by simpa using positioned) ready
      case h_2 => exact Calm.waitCanister.sound

namespace State.Calm

/-! ## Settles and phases -/

theorem strokeCheck (h : t.Calm) : t.strokeCheck.Sound := by
  rcases t.strokeCheck_cases with same | ⟨c, e, k, -, -, fault | fault⟩ |
    ⟨c, e, p, steps, current, pos, stroke, -⟩ | ⟨c, e, p, f, -, -, -, wait⟩
  · rw [same]
    exact h.sound
  · rw [fault]
    exact Calm.fault.sound
  · rw [fault]
    exact Calm.fault.sound
  · exact State.strokeCheck_sound current pos stroke
  · rw [wait]
    exact waitCanister.sound

/-- A settle begins no stroke unless its absent reading does when it is handed at once. -/
theorem settle {why : SettlePurpose} {st : StationState} {absent : State → State}
    (handed : ∀ u : State, u.Calm → (absent u).Sound) (other : st ≠ .stroking) :
    (t.settle why st absent).Sound :=
  Sound.ite (handed _ other) (frame (t := t.goto st) other rfl).sound

theorem startPhase (h : t.Calm) {start : Option Nat} : (t.startPhase start).Sound := by
  unfold State.startPhase
  split
  · exact h.sound
  · rename_i c _
    have started := ite (c := c.phase = .topup) (h.modCur (f := fun c => { c with start := start }))
      ((h.modCur (f := fun c => { c with start := start })).modTin (f := fun x => { x with entryStart := start }))
    exact Sound.ite started.issueManual.changeOrder.sound started.strokeCheck

theorem phaseReading (h : t.Calm) {r : Option Nat} : (t.phaseReading r).Sound :=
  (h.keepReading.modStation (by rfl)).startPhase

theorem settlePhase : t.settlePhase.Sound := settle (fun _ g => g.phaseReading) nofun

theorem beginPhase (h : t.Calm) : t.beginPhase.Sound := Sound.ite settlePhase h.startPhase

theorem recheck (h : t.Calm) : t.recheck.Sound := by
  unfold State.recheck
  split
  · exact h.sound
  · split
    · exact Sound.ite settlePhase h.strokeCheck
    · exact h.sound

theorem beginMove (h : t.Calm) {p : Position} : (t.beginMove p).Sound :=
  Sound.ite fault.sound (Sound.ite h.beginPhase (sound (goto (by nofun))))

/-! ## The serving of entries -/

theorem serveEntry (h : t.Calm) {i : Nat} : (t.serveEntry i).Sound := by
  unfold State.serveEntry
  split
  · exact h.sound
  · refine Sound.ite fault.sound (Sound.ite (h.modEntry.modStation (by rfl)).beginPhase ?_)
    split
    · exact (h.modEntry.modStation (by rfl)).beginMove
    · exact h.sound

theorem serveReady (h : t.Calm) : t.serveReady.Sound := by
  unfold State.serveReady
  split
  · exact completeRound.sound
  · exact h.serveEntry

theorem serveNext (h : t.Calm) : t.serveNext.Sound := by
  obtain ⟨u, rfl, complete | ⟨-, wait⟩ | ⟨-, f, fault⟩ | ⟨-, o, p, q, n, -, -, -, ready⟩⟩ := t.serveNext_cases
  · rw [complete]
    exact completeRound.sound
  · rw [wait]
    exact holdAt.sound
  · rw [fault]
    exact planFault.sound
  · rw [ready]
    exact (h.modPlan.modStation (by rfl)).serveReady

/-! ## Top-ups and verdicts -/

theorem commandTopUp (h : t.Calm) : t.commandTopUp.Sound := by
  unfold State.commandTopUp
  split
  · exact h.sound
  · split
    · dsimp only
      refine Sound.ite (Sound.ite ?_ fault.sound) ?_
      · exact ((ite h.modEntry.modPlan h.modEntry).modStation (by rfl)).modCur.setEntry.shotDone.serveNext
      · exact ((ite h.modEntry.modPlan h.modEntry).modStation (by rfl)).modCur.beginPhase
    · exact h.sound

theorem judge (h : t.Calm) {r : Option Nat} : (t.judge r).Sound := by
  unfold State.judge
  split
  · exact h.sound
  · dsimp only
    refine Sound.ite enterClearing.sound ?_
    split
    · exact h.endReading.setFlag.addMass.shotDone.setEntry.serveNext
    · exact h.endReading.setFlag.addMass.shotDone.commandTopUp
    · exact fault.sound

theorem judgeManual (h : t.Calm) {r : Option Nat} : (t.judgeManual r).Sound := by
  unfold State.judgeManual
  split
  · exact h.sound
  · dsimp only
    refine Sound.ite fault.sound ?_
    split
    · exact h.endReading.modCur.modEntry.shotDone.issueManual.sound
    · exact fault.sound
    all_goals exact h.endReading.modCur.modEntry.shotDone.setEntry.setFlag.serveNext

theorem verdictReading (h : t.Calm) {r : Option Nat} : (t.verdictReading r).Sound := by
  unfold State.verdictReading
  split
  · exact h.sound
  · exact Sound.ite h.judgeManual h.judge

theorem settleVerdict : t.settleVerdict.Sound := settle (fun _ g => g.verdictReading) nofun

/-! ## The active plan, and the readings handed to the station -/

theorem planTin (h : t.Calm) : t.planTin.Sound := by
  unfold State.planTin
  split
  · exact h.sound
  · dsimp only
    split
    · exact planFault.sound
    · exact (h.drawnInMotion.modStation (by rfl)).modOrder.serveNext

theorem tareReading {r : Option Nat} : (t.tareReading r).Sound := planTin (goto (by nofun))

theorem settleTare : t.settleTare.Sound := settle (fun _ _ => tareReading) nofun

theorem handReading (h : t.Calm) {r : Option Nat} : (t.handReading r).Sound := by
  unfold State.handReading
  split
  · exact tareReading
  · exact h.phaseReading
  · exact h.verdictReading

theorem settleAbsent (h : t.Calm) : t.settleAbsent.Sound := h.abandonSettle.handReading

/-! ## Homing and resumption -/

theorem rework (h : t.Calm) {i : Nat} {served : Bool} {go : State → State}
    (goes : ∀ u : State, u.Calm → (go u).Sound) : (t.rework i served go).Sound := by
  rcases t.rework_cases i served go with same | ⟨-, on⟩ | ⟨-, f, fault⟩ | ⟨-, q, on | next⟩
  · rw [same]
    exact h.sound
  · rw [on]
    exact goes _ h
  · rw [fault]
    exact planFault.sound
  · rw [on]
    exact goes _ (h.modStation (by rfl))
  · rw [next]
    exact (h.modStation (by rfl)).needReading.serveNext

theorem serveAgain (h : t.Calm) {i : Nat} : (t.serveAgain i).Sound :=
  h.rework fun _ g => serveEntry (ite g.modEntry.needReading g)

theorem stationHomed (h : t.Calm) {ok : Bool} : (t.stationHomed ok).Sound := by
  unfold State.stationHomed
  refine Sound.ite ?_ h.sound
  dsimp only
  split
  · exact (h.modStation (by rfl)).sound
  · exact Sound.ite (Sound.ite (h.modStation (by rfl)).serveAgain holdAt.sound) fault.sound

theorem homingEnds (h : t.Calm) {ok : Bool} : (t.homingEnds ok).Sound := (ite h.setMode h).stationHomed

theorem homed (h : t.Calm) : t.homed.Sound := by
  unfold State.homed
  refine homingEnds ?_
  exact h.frame rfl

theorem askHoming (h : t.Calm) : t.askHoming.Sound := by
  unfold State.askHoming
  split
  · exact h.homingEnds
  · exact h.sound
  · exact h.homingEnds
  all_goals exact Sound.ite h.homed (sound (h.frame rfl))

theorem resumeAt (h : t.Calm) {r : ResumePoint} : (t.resumeAt r).Sound := by
  unfold State.resumeAt
  dsimp only
  split
  · exact (h.modStation (by rfl)).serveNext
  · exact settleTare
  · exact settlePhase
  · exact (h.modStation (by rfl)).recheck
  · exact settleVerdict
  · exact (h.modStation (by rfl)).issueManual.sound
  · exact askHoming (moved (by nofun))
  · exact (h.modStation (by rfl)).commandTopUp
  · split
    · exact (h.modStation (by rfl)).serveEntry
    · exact (h.modStation (by rfl)).sound

theorem beginOrHold (h : t.Calm) {r : ResumePoint} : (t.beginOrHold r).Sound := Sound.ite h.resumeAt holdAt.sound

theorem retryPartial (h : t.Calm) : t.retryPartial.Sound := by
  unfold State.retryPartial
  split
  · exact h.sound
  · exact h.rework fun _ g => g.modEntry.needReading.modCur.beginOrHold

theorem retryVerdict (h : t.Calm) : t.retryVerdict.Sound := by
  unfold State.retryVerdict
  split
  · exact h.sound
  · exact h.rework fun _ g => g.beginOrHold

theorem reportPosition (h : t.Calm) {p : Position} : (t.reportPosition p).Sound := Sound.ite h.recheck h.sound

end State.Calm

end Sys2Proof.Machine
end
section
/-! What the operations on tins leave of a station without a stroke, and the strokes that an arrival begins (O51). -/

namespace Sys2Proof.Machine

namespace State.Sound

variable {t : State}

/-- A source told that its tin has gone does not touch a stroke. -/
theorem tellSource (h : t.Sound) {x : Transfer} : (t.tellSource x).Sound := by
  unfold State.tellSource
  refine ite ?_ h
  split
  · exact ite (Calm.sound (Calm.moved (by nofun))) h
  · exact ite (h.frame rfl) h
  all_goals exact h

end State.Sound

namespace State.Calm

variable {s t u : State}

/-! ## Binding and arrivals -/

theorem modIntake (h : t.Calm) {f : Intake → Intake} : (t.modIntake f).Calm := h

theorem setIntakeRequest (h : t.Calm) {r : Bool} : (t.setIntakeRequest r).Calm := h

theorem setSlot (h : t.Calm) {n : Option Nat} : (t.setSlot n).Calm := h

theorem bindOrder (h : t.Calm) {n : Nat} {slot : Bool} : (t.bindOrder n slot).Calm :=
  (ite h.assignTin.modOrder.setSlot h.assignTin.modOrder).changeOrder.modIntake.setIntakeRequest

theorem attemptBinding (h : t.Calm) : t.attemptBinding.Calm := by
  unfold State.attemptBinding
  split
  · exact h.bindOrder
  · exact h.modIntake.notify

theorem retryBinding (h : t.Calm) : t.retryBinding.Calm := by
  unfold State.retryBinding
  refine ite ?_ h
  split
  · exact h.bindOrder
  · exact h

theorem takeTin (h : t.Calm) : t.takeTin.Calm := ite h.attemptBinding h.modIntake

theorem returnBound (h : t.Calm) {n : Nat} : (t.returnBound n).Calm := by
  unfold State.returnBound
  split
  · exact h
  · exact ite (ite h.modOrder.setSlot.changeOrder h.modOrder.changeOrder) h.modOrder.changeOrder

theorem liftIntake (h : t.Calm) : t.liftIntake.Calm := by
  unfold State.liftIntake
  dsimp only
  split
  · exact h.returnBound.setIntakeRequest.modIntake
  · exact h.modIntake

theorem stationArrival (h : t.Calm) : t.stationArrival.Sound := by
  unfold State.stationArrival
  split
  · exact h.sound
  · exact Sound.ite enterClearing.sound (Sound.ite (h.modStation (by rfl)).sound
      (Sound.ite fault.sound (Sound.ite offerTin.sound settleTare)))

theorem bayArrival (h : t.Calm) {b : BayId} {x : Transfer} : (t.bayArrival b x).Calm := h.modBay.changeOrder

theorem lidDone (h : t.Calm) {n : Nat} : (t.lidDone n).Calm := h.modOrder

theorem dischargeWait (h : t.Calm) : t.dischargeWait.Calm := h

theorem lidderArrival (h : t.Calm) {x : Transfer} : (t.lidderArrival x).Calm := by
  unfold State.lidderArrival
  split
  · exact h
  · exact ite h.modLidder.changeOrder.modLidder h.modLidder.changeOrder.lidDone.dischargeWait

theorem laneArrival (h : t.Calm) {l : Lane} {x : Transfer} : (t.laneArrival l x).Calm :=
  h.modLane.changeOrder.notify

theorem handTin (h : t.Calm) {d : Dest} {x : Transfer} : (t.handTin d x).Sound := by
  unfold State.handTin
  split
  · exact h.stationArrival
  · exact h.bayArrival.sound
  · exact h.lidderArrival.sound
  · split
    · exact h.laneArrival.sound
    · exact h.sound

/-! ## The ends of transfers -/

theorem tellSource (h : t.Calm) {x : Transfer} : (t.tellSource x).Calm := by
  unfold State.tellSource
  refine ite ?_ h
  split
  · exact ite (moved (by nofun)) h
  · exact ite h.modLidder h
  all_goals exact h

theorem endArrival (h : t.Calm) {d : Dest} {x : Transfer} : (t.endArrival d x).Sound :=
  h.setRecord.handTin.tellSource

theorem setPresent (h : t.Calm) {d : Dest} {l : Option Lane} {p : Bool} : (t.setPresent d l p).Calm := by
  unfold State.setPresent
  split
  · exact h.modStation (by rfl)
  · exact h.modBay
  · exact h.modLidder
  · split
    · exact h.modLane
    · exact h

theorem riseOnRecord (h : t.Calm) {d : Dest} {x : Transfer} : (t.riseOnRecord d x).Sound := by
  unfold State.riseOnRecord
  split
  · exact h.endArrival
  all_goals exact h.setRecord.sound

theorem jam (h : t.Calm) {d : Dest} {x : Transfer} : (t.jam d x).Calm := h.setRecord.faultAtDest.tellSource

/-! ## Clearing of bays, lidder and lanes -/

theorem tick (h : t.Calm) : t.tick.Calm := h

theorem emptyBay (h : t.Calm) {b : BayId} : (t.emptyBay b).Calm := h.modBay.tick

theorem liftBay (h : t.Calm) {b : BayId} : (t.liftBay b).Calm := by
  refine emptyBay ?_
  split
  · exact h.reportLift
  · exact h

theorem clearBay (h : t.Calm) {b : BayId} : (t.clearBay b).Calm := ite h.modBay.modLidder h.modBay.modLidder.liftBay

theorem liftLidder (h : t.Calm) : t.liftLidder.Calm := by
  refine modLidder ?_
  split
  · exact h.reportLift
  · exact h

theorem clearLidder (h : t.Calm) : t.clearLidder.Calm := ite (h.frame rfl) (liftLidder (h.frame rfl))

theorem liftLane (h : t.Calm) {l : Lane} : (t.liftLane l).Calm := by
  refine modLane ?_
  split
  · exact h.reportLift
  · exact h

theorem scrapTransfer (h : t.Calm) {d : Dest} {x : Transfer} : (t.scrapTransfer d x).Calm := by
  unfold State.scrapTransfer
  dsimp only
  split
  · exact enterClearing
  · exact ite h.setRecord.tellSource.modBay.clearBay h.setRecord.tellSource.modBay.reportLift
  · exact h.setRecord.tellSource.modLidder.clearLidder
  · split
    · exact h.setRecord.tellSource
    · exact ite h.setRecord.tellSource.modLane h.setRecord.tellSource.modLane.liftLane

/-! ## Bays and lidder -/

theorem bayFault (h : t.Calm) {b : BayId} {k : FaultKind} : (t.bayFault b k).Calm := by
  unfold State.bayFault
  exact h.modBay.faultAtDest.modBay

theorem beginSpin (h : t.Calm) {b : BayId} : (t.beginSpin b).Calm := ite h.modBay h.bayFault

theorem bayReady (h : t.Calm) {b : BayId} : (t.bayReady b).Calm := by
  unfold State.bayReady
  exact h.modBay.setRoute.modLidder

theorem unclamp (h : t.Calm) {b : BayId} : (t.unclamp b).Calm := ite h.modBay h.modBay.bayReady

theorem beginBay (h : t.Calm) {b : BayId} : (t.beginBay b).Calm :=
  ite h.unclamp (ite h.bayFault (ite h.modBay.beginSpin h.modBay))

theorem brakeBay (h : t.Calm) {b : BayId} {c : BrakeCause} : (t.brakeBay b c).Calm := h.modBay

theorem seatFault (h : t.Calm) : t.seatFault.Calm := h.faultAtDest.modLidder

theorem beginPlacing (h : t.Calm) {empty : Bool} : (t.beginPlacing empty).Calm := by
  unfold State.beginPlacing
  split
  · exact h
  · exact ite h.modLidder.seatFault (ite (ite h.modLidder h.modLidder.notify) h.modLidder)

theorem press (h : t.Calm) {again : Bool} : (t.press again).Calm := h.modLidder

end State.Calm

end Sys2Proof.Machine
end

section
/-! Requests and their answers at a station without a stroke (O51). -/

namespace Sys2Proof.Machine

namespace State.Sound

variable {t : State}

theorem settleReply {a : Answer} (h : a.state.Sound) {kind tag : Byte} : (a.settle kind tag).Sound := h.frame rfl

theorem finish (h : t.Sound) : t.finish.Sound := by
  have put_off : t.holdWaiting.Sound := ite (Calm.sound (Calm.moved (by nofun))) h
  have chosen : t.holdWaiting.chooseFrame.Sound := put_off.frame (by rw [State.chooseFrame_eq])
  have resumed : t.holdWaiting.chooseFrame.resumeHalted.Sound := ite (chosen.frame rfl) chosen
  exact resumed.frame rfl

end State.Sound

namespace State.Calm

variable {s t u : State}

/-! ## Requests and replies -/

theorem offer (h : t.Calm) {kind tag : Byte} {p : List Byte} (taken : t.offer kind tag p = some u) : u.Calm :=
  h.frame (by rw [State.offer_eq taken])

/-- A request begins no stroke unless its owner's answer does. -/
theorem request (h : t.Calm) {kind tag : Byte} {p : List Byte} {owner : State → Answer}
    (owned : ∀ u : State, u.Calm → (owner u).state.Sound) : (t.request kind tag p owner).Sound := by
  unfold State.request
  split
  · rename_i w taken
    exact (owned w (h.offer taken)).settleReply
  · exact h.sound

/-- A request without a payload begins no stroke unless its owner's answer does. -/
theorem bare (h : t.Calm) {p : List Byte} {owner : State → Answer} (owned : (owner t).state.Sound) :
    (t.bare p owner).state.Sound := by
  unfold State.bare
  split
  · exact owned
  · exact h.sound

theorem answerStatus (h : t.Calm) {p : List Byte} : (t.answerStatus p).state.Sound := h.bare h.drawnInMotion.sound

theorem takeStatus (h : t.Calm) {tag : Byte} {p : List Byte} : (t.takeStatus tag p).Sound := by
  unfold State.takeStatus
  split
  · rename_i w taken
    have answered := Sound.settleReply (kind := 0x02) (tag := tag) (h.offer taken).answerStatus (a := w.answerStatus p)
    exact Sound.ite (answered.frame rfl) answered
  · exact h.sound

/-! ## Transmission -/

theorem endFrame (h : t.Calm) : t.endFrame.Calm := by
  unfold State.endFrame
  split
  · exact h
  · exact h
  · exact h

/-! ## The requests of the order book -/

theorem answerSubmit (h : t.Calm) {p : List Byte} : (t.answerSubmit p).state.Calm := by
  unfold State.answerSubmit
  split
  · exact h
  split
  · exact h
  split
  · exact h
  split
  · exact h
  split
  · exact h
  · exact retryBinding h

theorem answerPreview (h : t.Calm) {p : List Byte} : (t.answerPreview p).state.Calm := by
  unfold State.answerPreview
  dsimp only
  split
  · exact h
  split
  · exact h
  split
  · exact h
  split
  · exact h
  split
  · exact h.drawnInMotion
  · exact h.drawnInMotion

theorem answerQuery (h : t.Calm) {p : List Byte} : (t.answerQuery p).state.Calm := by
  unfold State.answerQuery
  split
  · exact h
  · exact h

theorem cancelAtIntake (h : t.Calm) {o : Order} : (t.cancelAtIntake o).Calm :=
  ite h.freeOrder.setIntakeRequest.modIntake h.freeOrder.setIntakeRequest.modIntake.takeTin

theorem cancelAtStation (h : t.Calm) : t.cancelAtStation.Calm := by
  unfold State.cancelAtStation
  split
  · exact h
  · exact ite enterClearing h
  · exact enterClearing

theorem markCancelled (h : t.Calm) {n : Nat} : (t.markCancelled n).Calm := h.setPendingEnd.notifyOrder

theorem cancelHeld {n : Nat} {f : FaultRecord} : (t.cancelHeld n f).Calm := enterClearing

theorem cancelOrder (h : t.Calm) {o : Order} (cancelled : t.cancelOrder o = .ok u) : u.Calm := by
  unfold State.cancelOrder at cancelled
  split at cancelled
  · cases cancelled
    exact h
  split at cancelled
  case h_5 =>
    split at cancelled
    · cases cancelled
      exact h.cancelAtIntake
    · cases cancelled
      exact h.markCancelled.cancelAtStation
  case h_8 =>
    split at cancelled
    · split at cancelled
      · cases cancelled
        exact cancelHeld
      · cases cancelled
    · cases cancelled
  case h_6 | h_7 =>
    cases cancelled
    exact h.markCancelled.cancelAtStation
  all_goals cases cancelled
  all_goals exact h.freeOrder

theorem answerCancel (h : t.Calm) {p : List Byte} : (t.answerCancel p).state.Calm := by
  unfold State.answerCancel
  split
  · exact h
  split
  · rename_i cancelled
    exact h.cancelOrder cancelled
  · exact h

theorem enterSlot (h : t.Calm) {n : Nat} : (t.enterSlot n).Calm := h.setSlot.changeOrder.retryBinding

theorem answerCorrect (h : t.Calm) {p : List Byte} : (t.answerCorrect p).state.Calm := by
  unfold State.answerCorrect
  dsimp only
  split
  · exact h
  split
  · exact h
  split
  · exact h
  split
  · exact h
  split
  · exact h
  · exact h.modOrder.enterSlot

theorem answerApprove (h : t.Calm) {p : List Byte} : (t.answerApprove p).state.Calm := by
  unfold State.answerApprove
  split
  · exact h
  split
  · exact h
  · exact h.modOrder.enterSlot

theorem answerResume (h : t.Calm) {p : List Byte} : (t.answerResume p).state.Calm := by
  unfold State.answerResume
  split
  · exact h
  split
  · exact h
  split
  · exact h
  · exact h.enterSlot

/-! ## RESOLVE and the answers to a manual step -/

/-- RESOLVE begins no stroke unless its action does. -/
theorem answerResolve (h : t.Calm) {a : Action} {act : Order → FaultRecord → State → State} {p : List Byte}
    (acts : ∀ o f (u : State), u.Calm → (act o f u).Sound) : (t.answerResolve a act p).state.Sound := by
  unfold State.answerResolve
  split
  · exact h.sound
  · exact acts _ _ _ h.unhold

theorem actRetryShot (h : t.Calm) {o : Order} {f : FaultRecord} : (t.actRetryShot o f).Sound :=
  Sound.ite h.setEntry.needReading.beginOrHold h.retryPartial

theorem actSkipShot (h : t.Calm) {o : Order} {f : FaultRecord} : (t.actSkipShot o f).Sound := h.setEntry.serveNext

theorem actAccept (h : t.Calm) {o : Order} {f : FaultRecord} : (t.actAccept o f).Sound :=
  (ite h.setEntry.setFlag h.setEntry).serveNext

/-- An action at the station begins no stroke but a READY one when what it begins does so. -/
theorem unlessEnded {o : Order} {begin : State → State} (begun : (begin t).Sound) : (t.unlessEnded o begin).Sound :=
  Sound.ite enterClearing.sound begun

theorem retryStation (h : t.Calm) {o : Order} {f : FaultRecord} : (t.retryStation o f).Sound := by
  refine Sound.ite (unlessEnded ?_) h.beginOrHold
  split
  · exact h.retryPartial
  · exact h.retryVerdict
  · exact h.beginOrHold
  · exact h.sound

theorem retryTransfer (h : t.Calm) {d : Dest} : (t.retryTransfer d).Sound := by
  unfold State.retryTransfer
  split
  · exact Sound.ite h.endArrival h.setRecord.sound
  · exact h.sound

theorem actRetry (h : t.Calm) {o : Order} {f : FaultRecord} : (t.actRetry o f).Sound := by
  refine Sound.ite h.retryTransfer ?_
  split
  · exact h.retryStation
  · exact h.modBay.sound
  · exact h.modLidder.sound
  · exact h.sound

theorem actConfirm (h : t.Calm) {o : Order} {f : FaultRecord} : (t.actConfirm o f).Sound := by
  unfold State.actConfirm
  split
  · exact h.endArrival
  · exact h.sound

theorem actPass (h : t.Calm) {o : Order} {f : FaultRecord} : (t.actPass o f).Calm := h.lidDone.dischargeWait

theorem actScrap (h : t.Calm) {o : Order} {f : FaultRecord} : (t.actScrap o f).Calm := by
  unfold State.actScrap
  refine ite ?_ ?_
  · split
    · exact h.setPendingEnd.scrapTransfer
    · exact h.setPendingEnd
  · split
    · exact enterClearing
    · exact h.setPendingEnd.clearBay
    · exact h.setPendingEnd.clearLidder
    · exact h.setPendingEnd

theorem actRemake {o : Order} {f : FaultRecord} : (t.actRemake o f).Sound :=
  unlessEnded (sound (changeOrder (moved (by nofun))))

theorem actCancel {o : Order} {f : FaultRecord} : (t.actCancel o f).Calm := enterClearing

theorem actRelease {o : Order} {f : FaultRecord} : (t.actRelease o f).Calm := enterClearing

theorem answerRelease (h : t.Calm) {p : List Byte} : (t.answerRelease p).state.Sound := by
  unfold State.answerRelease
  split
  · split
    · exact h.freeOrder.sound
    · exact h.answerResolve fun _ _ _ _ => actRelease.sound
  · exact h.answerResolve fun _ _ _ _ => actRelease.sound

theorem answerManualDone (h : t.Calm) {p : List Byte} : (t.answerManualDone p).state.Sound := by
  unfold State.answerManualDone
  dsimp only
  split
  · exact h.sound
  · exact settleVerdict

theorem answerManualSkip (h : t.Calm) {p : List Byte} : (t.answerManualSkip p).state.Sound := by
  unfold State.answerManualSkip
  dsimp only
  split
  · exact h.sound
  · exact h.setEntry.setFlag.serveNext

end State.Calm

end Sys2Proof.Machine
end
section
/-! The line mode unit, the e-stop chain and the events at a station without a stroke (O51). -/

namespace Sys2Proof.Machine

namespace State.Calm

variable {s t u : State}

/-! ## The line mode unit -/

theorem setPendingMode (h : t.Calm) {p : Option PendingMode} : (t.setPendingMode p).Calm := h

theorem answerRun (h : t.Calm) {p : List Byte} : (t.answerRun p).state.Sound := by
  refine h.bare ?_
  split
  · split
    · exact h.setMode.sound
    · exact h.setPendingMode.askHoming
  · exact h.sound
  · exact h.setMode.askHoming
  · exact h.setPendingMode.sound
  · exact h.sound
  · exact h.sound

theorem completePause (h : t.Calm) : t.completePause.Calm := ite h.setMode h

theorem answerPause (h : t.Calm) {p : List Byte} : (t.answerPause p).state.Sound := by
  refine h.bare ?_
  split
  · exact h.sound
  · exact h.setPendingMode.holdWaiting.completePause.sound
  · exact h.setPendingMode.sound
  · exact h.setMode.askHoming
  · exact h.sound

theorem unhome (h : t.Calm) : t.unhome.Calm := h

theorem answerService (h : t.Calm) {p : List Byte} : (t.answerService p).state.Sound := by
  refine h.bare ?_
  split
  · exact h.setMode.unhome.sound
  · exact h.sound

theorem answerStopReset (h : t.Calm) {p : List Byte} : (t.answerStopReset p).state.Sound := by
  refine h.bare ?_
  split
  · have unlatched : Calm { t with line := { t.line with latch := false } } := h
    exact unlatched.setMode.sound
  · exact h.sound

theorem loseTin (h : t.Calm) {n : Nat} : (t.loseTin n).Calm := by
  unfold State.loseTin
  split
  · exact h
  split
  · exact h.reportLift
  · exact h.modOrder.changeOrder
  · exact h.modOrder.changeOrder

/-- An operation on one order after another begins no stroke when the operation begins none. -/
theorem foldl_order (h : t.Calm) {f : State → Order → State} (each : ∀ (u : State) o, u.Calm → (f u o).Calm)
    {os : List Order} : (os.foldl f t).Calm := by
  induction os generalizing t with
  | nil => exact h
  | cons o rest ih => exact ih (each t o h)

theorem clearedLine {st : Station} : st.clearedLine.state ≠ .stroking := by
  unfold Station.clearedLine
  dsimp only
  split
  · nofun
  · nofun

theorem answerClearLine (h : t.Calm) {p : List Byte} : (t.answerClearLine p).state.Sound := by
  refine h.bare ?_
  split
  · exact h.sound
  · exact h.sound
  all_goals exact sound clearedLine

/-! ## The e-stop chain -/

theorem haltStation {i : Option Nat} {r : ResumePoint} : (t.haltStation i r).Calm :=
  modStation (goto (by nofun)) (by rfl)

theorem stopStation (h : t.Calm) {count : Option Nat} : (t.stopStation count).Calm := by
  unfold State.stopStation
  split
  case h_4 =>
    dsimp only
    split
    · exact haltStation
    · exact haltStation
  case h_5 | h_6 =>
    refine ite haltStation ?_
    split
    · exact haltStation
    · exact haltStation
  case h_1 | h_2 | h_3 | h_7 | h_8 => exact haltStation
  all_goals exact h

theorem stopTransfer (h : t.Calm) {d : Dest} : (t.stopTransfer d).Calm := by
  unfold State.stopTransfer
  split
  · exact ite h.setRecord.faultAtDest h
  · exact h

theorem stopBay (h : t.Calm) {b : BayId} : (t.stopBay b).Calm := ite h h.modBay.faultAtDest

theorem stopLidder (h : t.Calm) : t.stopLidder.Calm := ite h.modLidder.faultAtDest h

theorem stopUnit (h : t.Calm) {count : Option Nat} {x : StopUnit} : (t.stopUnit count x).Calm := by
  cases x with
  | station => exact h.stopStation
  | transfer d => exact h.stopTransfer
  | bay b => exact h.stopBay
  | lidder => exact h.stopLidder

theorem withNotices (h : t.Calm) {ns : List Notice} : Calm { t with notices := ns } := h

theorem gatherStops (h : t.Calm) {count : Option Nat} {us : List StopUnit} : (t.gatherStops count us).1.Calm := by
  induction us generalizing t with
  | nil => exact h
  | cons x rest ih => exact ih h.withNotices.stopUnit.withNotices

theorem appendAnyOrder (h : t.Calm) {fuel : Nat} {ls : List (List NoticeBody)} :
    (t.appendAnyOrder fuel ls).Calm := by
  induction fuel generalizing t ls with
  | zero => exact h
  | succ n ih =>
    unfold State.appendAnyOrder
    split
    · exact h
    · exact h.foldl_notify
    · dsimp only
      split
      · exact ih h.drawn.notify
      · exact h

theorem withPositioner (h : t.Calm) {p : Positioner} : Calm { t with positioner := p } := h

theorem stopBlocks (h : t.Calm) {count : Option Nat} {travelled : Nat} : (t.stopBlocks count travelled).Calm := by
  unfold State.stopBlocks
  exact (h.withPositioner.gatherStops (count := count) (us := stopUnits)).appendAnyOrder

theorem openChain (h : t.Calm) {count : Option Nat} {travelled : Nat} : (t.openChain count travelled).Calm := by
  unfold State.openChain
  split
  · exact h
  · refine stopBlocks (notify (notify ?_))
    exact h

/-! ## The events of the intake, the conveyor, the bays, the lidder and the outlet -/

theorem placeTin (h : t.Calm) {cls : TinClass} {lidded : Bool} : (t.placeTin cls lidded).Calm :=
  ite (ite h.liftIntake h).modIntake.modIntake.notify (ite h.liftIntake h).modIntake.takeTin

theorem bindRetry (h : t.Calm) : t.bindRetry.Calm := ite h.attemptBinding h.retryBinding

theorem startIntake (h : t.Calm) : t.startIntake.Calm := by
  unfold State.startIntake
  split
  · exact ite (modIntake (setIntakeRequest (moved (by nofun)))) h
  · exact h

theorem sendTin : t.sendTin.Calm := (goto (t := t) (st := .sending) (by nofun)).frame rfl

theorem startStation (h : t.Calm) : t.startStation.Calm := by
  unfold State.startStation
  refine ite ?_ h
  dsimp only
  split
  · exact sendTin
  · exact h

theorem startLidder (h : t.Calm) : t.startLidder.Calm := by
  unfold State.startLidder
  refine ite ?_ h
  split
  · exact h
  · exact h

theorem startTransfer (h : t.Calm) {r : TransferRequest} : (t.startTransfer r).Calm := by
  cases r with
  | intake => exact h.startIntake
  | station => exact h.startStation
  | lidder => exact h.startLidder

theorem arrive (h : t.Calm) {d : Dest} {cls : TinClass} {lidded : Bool} : (t.arrive d cls lidded).Sound := by
  unfold State.arrive
  split
  · exact Sound.ite (ite (h.modStation (by rfl)) h).setPresent.endArrival h.sound
  · exact h.sound

theorem expireTransfer (h : t.Calm) {d : Dest} : (t.expireTransfer d).Calm := by
  unfold State.expireTransfer
  split
  · exact ite h.jam h
  · exact h

theorem bayRise (h : t.Calm) {b : BayId} : (t.bayRise b).Sound := by
  unfold State.bayRise
  dsimp only
  split
  · exact h.modBay.riseOnRecord
  · exact h.modBay.sound

theorem bayFall (h : t.Calm) {b : BayId} : (t.bayFall b).Calm := by
  unfold State.bayFall
  dsimp only
  split
  · exact h.modBay.brakeBay
  · exact h.modBay.liftBay
  all_goals exact h.modBay

theorem whenBay (h : t.Calm) {b : BayId} {st : BayState} {f : State → State} (effect : (f t).Calm) :
    (t.whenBay b st f).Calm :=
  ite effect h

theorem clampFall (h : t.Calm) {b : BayId} : (t.clampFall b).Calm := by
  unfold State.clampFall
  dsimp only
  split
  · exact h.modBay.brakeBay
  · exact h.modBay.bayReady
  all_goals exact h.modBay

theorem endBrake (h : t.Calm) {b : BayId} : (t.endBrake b).Calm := by
  unfold State.endBrake
  split
  · exact h.unclamp
  · exact h.bayFault
  · exact h.bayFault
  · exact h

theorem brakeEnds (h : t.Calm) {b : BayId} : (t.brakeEnds b).Calm := by
  unfold State.brakeEnds
  split
  · exact h.endBrake
  · exact h.modBay
  · exact h.modBay
  all_goals exact h

theorem reserveLidder (h : t.Calm) {x : Transfer} : (t.reserveLidder x).Calm := h.setRecord.modLidder

theorem takeSource (h : t.Calm) : t.takeSource.Calm := by
  unfold State.takeSource
  refine ite ?_ h
  split
  · split
    · exact h.reserveLidder.emptyBay
    · exact h
  · exact sendTin
  · exact h

theorem beginLidder (h : t.Calm) {empty : Bool} : (t.beginLidder empty).Calm := by
  unfold State.beginLidder
  refine ite ?_ h
  split
  · exact h.beginPlacing
  · exact h.press
  · exact ite h.beginPlacing h
  · exact h

theorem whenLidder (h : t.Calm) {st : LidderState} {f : State → State} (effect : (f t).Calm) :
    (t.whenLidder st f).Calm :=
  ite effect h

theorem checkSeat (h : t.Calm) {seated : Bool} : (t.checkSeat seated).Calm :=
  ite h.setFlag.lidDone.dischargeWait (ite h.seatFault h.press)

theorem lidderRise (h : t.Calm) : t.lidderRise.Sound := by
  unfold State.lidderRise
  dsimp only
  split
  · exact h.modLidder.riseOnRecord
  · exact h.modLidder.sound

theorem laneRise (h : t.Calm) {l : Lane} : (t.laneRise l).Sound := by
  unfold State.laneRise
  dsimp only
  split
  · exact Sound.ite h.modLane.riseOnRecord h.modLane.sound
  · exact h.modLane.sound

theorem liftCheck (h : t.Calm) {n : Nat} : (t.liftCheck n).Calm := ite h.modOrder.retryBinding h.modOrder

theorem laneFall (h : t.Calm) {l : Lane} : (t.laneFall l).Calm := by
  unfold State.laneFall
  dsimp only
  split
  · exact modLane h.modLane.freeOrder
  · exact h.modLane.modLane.liftCheck
  · exact h.modLane.modLane
  · exact h.modLane.modLane
  · exact h.modLane.liftLane
  all_goals exact h.modLane

/-! ## The events of the station, the weigh cell, the carousel and the pump -/

theorem placeRemake (h : t.Calm) : t.placeRemake.Sound := by
  unfold State.placeRemake
  split
  · exact h.sound
  · exact Sound.ite h.notify.sound (Sound.ite h.notify.sound settleTare)

theorem stationRise (h : t.Calm) {cls : TinClass} {lidded : Bool} : (t.stationRise cls lidded).Sound := by
  have read : Calm ((t.readTin cls lidded).modStation fun st => { st with present := true }) := h
  unfold State.stationRise
  dsimp only
  split
  · exact read.riseOnRecord
  split
  · exact Sound.ite read.stationArrival read.sound
  · exact read.placeRemake
  · exact read.sound

theorem stationFall (h : t.Calm) : t.stationFall.Sound :=
  Sound.ite (h.modStation (by rfl)).settleAbsent (Sound.ite liftCleared.sound (h.modStation (by rfl)).sound)

theorem resumeStation (h : t.Calm) : t.resumeStation.Sound := by
  unfold State.resumeStation
  refine Sound.ite ?_ h.sound
  split
  · exact h.resumeAt
  · exact h.sound

theorem withWeigh (h : t.Calm) {w : WeighCell} : Calm { t with weigh := w } := h

theorem settleReading (h : t.Calm) : t.settleReading.Sound := Sound.ite h.withWeigh.handReading h.sound

theorem scaleFault (h : t.Calm) {asserted : Bool} : (t.scaleFault asserted).Sound :=
  Sound.ite h.withWeigh.settleAbsent h.withWeigh.sound

theorem moveResult (h : t.Calm) {arrived : Bool} : (t.moveResult arrived).Sound :=
  Sound.ite (Sound.ite h.beginPhase fault.sound) h.sound

theorem moveArrived (h : t.Calm) : t.moveArrived.Sound := by
  unfold State.moveArrived
  split
  · exact h.withPositioner.moveResult
  · exact h.sound

theorem moveExpires (h : t.Calm) {travelled : Nat} : (t.moveExpires travelled).Sound :=
  Sound.ite h.withPositioner.moveResult h.sound

theorem homePass (h : t.Calm) {onMark : Bool} {count : Option Nat} : (t.homePass onMark count).Calm := by
  rw [State.homePass, if_neg fun both => h both.2]
  exact h

theorem homingDone (h : t.Calm) : t.homingDone.Sound := Sound.ite h.withPositioner.homed h.sound

theorem homingExpires (h : t.Calm) : t.homingExpires.Sound := Sound.ite h.withPositioner.homingEnds h.sound

theorem pumpDone (h : t.Calm) {count : Option Nat} : (t.pumpDone count).Calm := by
  rw [State.pumpDone, if_neg h]
  exact h

theorem modCanister (h : t.Calm) {p : Position} {f : Canister → Canister} : (t.modCanister p f).Calm := h

theorem unseat (h : t.Calm) {p : Position} {count : Option Nat} : (t.unseat p count).Calm := by
  have told : Calm (if t.canisters[p].configured then (t.modCanister p fun c => { c with seated := false }).notify
      (.canisterUnseated 0 [p] t.canisters[p].code) else t.modCanister p fun c => { c with seated := false }) :=
    ite h.modCanister.notify h.modCanister
  rw [State.unseat, if_neg fun both => told both.1]
  exact told

theorem reseat (h : t.Calm) {p : Position} : (t.reseat p).Sound :=
  Sound.ite h.modCanister.reportPosition h.modCanister.sound

/-! ## The requests of the tables, the lids, the settings and the flash store -/

theorem changePosition (h : t.Calm) {p : Position} {c : Canister} : (t.changePosition p c).Sound :=
  Sound.ite h.modCanister.sound h.modCanister.reportPosition

theorem answerCanisterSet (h : t.Calm) {p : List Byte} : (t.answerCanisterSet p).state.Sound := by
  unfold State.answerCanisterSet
  split
  · exact h.sound
  split
  · exact h.sound
  split
  · exact h.sound
  split
  · exact h.sound
  · exact h.changePosition

theorem answerCanisterQuery (h : t.Calm) {p : List Byte} : (t.answerCanisterQuery p).state.Calm := by
  unfold State.answerCanisterQuery
  split
  · exact h
  split
  · exact h
  · exact h

theorem answerRefill (h : t.Calm) {p : List Byte} : (t.answerRefill p).state.Sound := by
  unfold State.answerRefill
  split
  · exact h.sound
  dsimp only
  split
  · exact h.sound
  split
  · exact h.sound
  split
  · exact h.sound
  · exact h.changePosition

theorem answerCanisterClear (h : t.Calm) {p : List Byte} : (t.answerCanisterClear p).state.Calm := by
  unfold State.answerCanisterClear
  split
  · exact h
  split
  · exact h
  split
  · exact h
  · exact h.modCanister

theorem answerClassSet (h : t.Calm) {p : List Byte} : (t.answerClassSet p).state.Calm := by
  unfold State.answerClassSet
  split
  · exact h
  split
  · exact h
  · exact h

theorem answerLids (h : t.Calm) {p : List Byte} : (t.answerLids p).state.Calm := by
  unfold State.answerLids
  split
  · exact h
  split
  · exact h
  · exact h

theorem answerSettingsSet (h : t.Calm) {p : List Byte} : (t.answerSettingsSet p).state.Calm := by
  unfold State.answerSettingsSet
  split
  · exact h
  · exact h

theorem answerSave (h : t.Calm) {p : List Byte} : (t.answerSave p).state.Sound := by
  refine h.bare ?_
  split
  · exact h.sound
  · exact (h.frame rfl).sound

theorem endSave (h : t.Calm) {verified : Bool} : (t.endSave verified).Calm := by
  unfold State.endSave
  split
  · exact h
  · exact h

/-! ## The supply warning and start-up -/

theorem warn {count : Option Nat} {travelled : Nat} : (t.warn count travelled).Calm :=
  (moved (t := t.warnStation count) (f := fun st => { st with state := .halted }) (by nofun)).frame rfl

theorem flagUnclean (h : t.Calm) : t.flagUnclean.Calm := ite h h

theorem mapOrder (h : t.Calm) {n : Nat} : (t.mapOrder n).Calm := by
  unfold State.mapOrder
  split
  · exact h
  refine ite h.reportLift ?_
  split
  case h_3 | h_4 | h_5 | h_6 | h_7 | h_8 | h_9 => exact h.loseTin
  case h_10 => exact ite h h.freeOrder
  case h_11 | h_12 => exact ite h h.modOrder
  all_goals exact h

theorem mapOrders (h : t.Calm) : t.mapOrders.Calm := (h.foldl_order fun _ _ g => g.mapOrder).modStation (by rfl)

theorem readSensors (h : t.Calm) {x : Sensors} : (t.readSensors x).Calm := h

theorem loadWarm (h : t.Calm) : t.loadWarm.Calm := h.flagUnclean.mapOrders.frame rfl

theorem loadCold (h : t.Calm) : t.loadCold.Calm := h.frame rfl

theorem loadImage (h : t.Calm) {warm : Bool} : (t.loadImage warm).1.Calm := by
  unfold State.loadImage
  exact withNotices (ite h.withNotices.loadWarm h.withNotices.loadCold)

theorem chainAtStart (h : t.Calm) : t.chainAtStart.Calm := ite h.openChain h

theorem startStations : t.startStations.Calm := clearedLine

theorem emptyQueues (h : t.Calm) : t.emptyQueues.Calm := h

theorem announceStart (h : t.Calm) {warm : Bool} : (t.announceStart warm).Calm := h

theorem startUp {x : Sensors} {warm : Bool} : (t.startUp x warm).Calm := by
  unfold State.startUp
  exact (startStations.emptyQueues.announceStart).foldl_notify.chainAtStart

theorem startUpSteps (h : t.Calm) {x : Sensors} {warm : Bool} {k : Nat} : (t.startUpSteps x warm k).Calm := by
  unfold State.startUpSteps
  split
  · exact h
  · exact h.readSensors
  · exact h.readSensors.loadImage
  · exact startStations
  · exact startStations

end State.Calm

/-- The completion of a stroke: what its end leaves goes to the verification, or to the check of the next stroke
(R81). -/
theorem State.pumpDone_sound {s : State} {c : CurrentEntry} {e : Entry} (current : s.current? = some (c, e))
    (pos : e.pos ≠ none) (count : Option Nat) : (s.pumpDone count).Sound := by
  obtain ⟨cur, q, plan, entry⟩ := State.current?_iff.1 current
  obtain ⟨p, pos⟩ := Option.ne_none_iff_exists'.1 pos
  unfold State.pumpDone
  split
  case isFalse calm => exact Calm.sound calm
  case isTrue =>
    rw [cur]
    dsimp only
    split
    case isTrue => exact Calm.settleVerdict
    case isFalse goes_on =>
      have left : c.ended + 1 < c.strokes.length := by
        simp only [Bool.or_eq_true, decide_eq_true_eq, not_or, not_le] at goes_on
        exact goes_on.2
      have inside : c.index < q.entries.length := (List.getElem?_eq_some_iff.1 entry).1
      have ended := State.endStroke_of_current cur plan entry pos count
      have next : (s.endStroke count).current? = some (c.stroked count, e.stroked (c.given count)) := by
        rw [ended]
        exact State.current?_iff.2 ⟨rfl, _, rfl, List.getElem?_set_self inside⟩
      exact State.strokeCheck_sound next pos (List.getElem?_eq_getElem left)

end Sys2Proof.Machine
end
section
/-! Every command at a station without a stroke, and the completion of a stroke (O51). -/

namespace Sys2Proof.Machine

variable {s : State}

/-- A command of the controller begins no stroke unless its effect does. -/
theorem State.command_sound (calm : s.Calm) {f : State → State} (effect : (f s).Sound) :
    ∃ t, s.command f = .next t ∧ t.Sound := by
  rcases s.command_cases f with ⟨-, unchanged⟩ | ⟨-, done⟩
  · exact ⟨s, unchanged, calm.sound⟩
  · exact ⟨_, done, effect.finish⟩

theorem State.requestCommand_sound (calm : s.Calm) {kind tag : Byte} {p : List Byte} {owner : State → Answer}
    (owned : ∀ u : State, u.Calm → (owner u).state.Sound) :
    ∃ t, s.requestCommand kind tag p owner = .next t ∧ t.Sound :=
  State.command_sound calm (calm.request owned)

theorem State.resolveCommand_sound (calm : s.Calm) {a : Action} {tag : Byte} {p : List Byte}
    {owner : List Byte → State → Answer} (owned : ∀ u : State, u.Calm → (owner p u).state.Sound) :
    ∃ t, s.resolveCommand a tag p owner = .next t ∧ t.Sound :=
  State.command_sound calm (State.Sound.ite (calm.request owned) calm.sound)

theorem execSupplyWarning_sound (calm : s.Calm) (count : Option Nat) (travelled : Nat) :
    ∃ t, execSupplyWarning count travelled s = .next t ∧ t.Sound := by
  unfold execSupplyWarning
  split
  · exact ⟨s, rfl, calm.sound⟩
  · exact ⟨_, rfl, State.Calm.warn.sound⟩

theorem execStartUp_sound (calm : s.Calm) (x : Sensors) (warm : Bool) (steps : Option (Fin 5)) :
    ∃ t, execStartUp x warm steps s = .next t ∧ t.Sound := by
  cases steps with
  | none => exact ⟨_, rfl, State.Calm.startUp.sound.finish⟩
  | some k => exact ⟨_, rfl, (calm.startUpSteps (x := x) (warm := warm) (k := k)).sound.frame rfl⟩

/-- A command at a station without a stroke begins no stroke but a READY one. -/
theorem exec_sound (calm : s.Calm) (c : Instr) : ∃ t, exec c s = .next t ∧ t.Sound := by
  cases c with
  | ident => exact State.requestCommand_sound calm fun _ h => h.bare h.sound
  | status => exact State.command_sound calm calm.takeStatus
  | orderSubmit => exact State.requestCommand_sound calm fun _ h => h.answerSubmit.sound
  | orderQuery => exact State.requestCommand_sound calm fun _ h => h.answerQuery.sound
  | orderCancel => exact State.requestCommand_sound calm fun _ h => h.answerCancel.sound
  | orderCorrect => exact State.requestCommand_sound calm fun _ h => h.answerCorrect.sound
  | orderApprove => exact State.requestCommand_sound calm fun _ h => h.answerApprove.sound
  | orderResume => exact State.requestCommand_sound calm fun _ h => h.answerResume.sound
  | resolveRetryShot => exact State.resolveCommand_sound calm fun _ h => h.answerResolve fun _ _ _ g => g.actRetryShot
  | resolveSkipShot => exact State.resolveCommand_sound calm fun _ h => h.answerResolve fun _ _ _ g => g.actSkipShot
  | resolveAccept => exact State.resolveCommand_sound calm fun _ h => h.answerResolve fun _ _ _ g => g.actAccept
  | resolveRetry => exact State.resolveCommand_sound calm fun _ h => h.answerResolve fun _ _ _ g => g.actRetry
  | resolveConfirm => exact State.resolveCommand_sound calm fun _ h => h.answerResolve fun _ _ _ g => g.actConfirm
  | resolvePass => exact State.resolveCommand_sound calm fun _ h => h.answerResolve fun _ _ _ g => g.actPass.sound
  | resolveScrap => exact State.resolveCommand_sound calm fun _ h => h.answerResolve fun _ _ _ g => g.actScrap.sound
  | resolveRemake =>
    exact State.resolveCommand_sound calm fun _ h => h.answerResolve fun _ _ _ _ => State.Calm.actRemake
  | resolveCancel =>
    exact State.resolveCommand_sound calm fun _ h => h.answerResolve fun _ _ _ _ => State.Calm.actCancel.sound
  | resolveRelease => exact State.resolveCommand_sound calm fun _ h => h.answerRelease
  | manualDone =>
    unfold exec execManualDone
    refine State.command_sound calm ?_
    split
    · exact calm.sound
    · exact calm.request fun _ h => h.answerManualDone
  | manualSkip =>
    unfold exec execManualSkip
    refine State.command_sound calm ?_
    split
    · exact calm.sound
    · exact calm.request fun _ h => h.answerManualSkip
  | planPreview => exact State.requestCommand_sound calm fun _ h => h.answerPreview.sound
  | canisterSet => exact State.requestCommand_sound calm fun _ h => h.answerCanisterSet
  | canisterQuery => exact State.requestCommand_sound calm fun _ h => h.answerCanisterQuery.sound
  | canisterRefill => exact State.requestCommand_sound calm fun _ h => h.answerRefill
  | canisterClear => exact State.requestCommand_sound calm fun _ h => h.answerCanisterClear.sound
  | classSet => exact State.requestCommand_sound calm fun _ h => h.answerClassSet.sound
  | classQuery => exact State.requestCommand_sound calm fun _ h => h.bare h.sound
  | lidsLoaded => exact State.requestCommand_sound calm fun _ h => h.answerLids.sound
  | lineRun => exact State.requestCommand_sound calm fun _ h => h.answerRun
  | linePause => exact State.requestCommand_sound calm fun _ h => h.answerPause
  | lineService => exact State.requestCommand_sound calm fun _ h => h.answerService
  | stopReset => exact State.requestCommand_sound calm fun _ h => h.answerStopReset
  | clearLine => exact State.requestCommand_sound calm fun _ h => h.answerClearLine
  | settingsSet => exact State.requestCommand_sound calm fun _ h => h.answerSettingsSet.sound
  | settingsQuery => exact State.requestCommand_sound calm fun _ h => h.bare h.sound
  | storeSave => exact State.requestCommand_sound calm fun _ h => h.answerSave
  | unknownKindRequest =>
    unfold exec execUnknownKindRequest
    refine State.command_sound calm ?_
    split
    · exact calm.sound
    · exact calm.request (owner := fun u => u.refuse .unknownKind) fun _ h => h.sound
  | frameReceived => exact State.command_sound calm (calm.frame rfl).sound
  | frameGapTimeout =>
    unfold exec execFrameGapTimeout
    exact State.command_sound calm (calm.frame rfl).sound
  | ctsChange =>
    unfold exec execCtsChange
    exact State.command_sound calm (calm.frame rfl).sound
  | transmitEnd => exact State.command_sound calm calm.endFrame.sound
  | pauseComplete => exact State.command_sound calm calm.completePause.sound
  | estopChainOpen => exact State.command_sound calm calm.openChain.sound
  | estopChainClose =>
    unfold exec execEstopChainClose
    exact State.command_sound calm (calm.frame rfl).sound
  | intakeTinPlaced => exact State.command_sound calm calm.placeTin.sound
  | intakeBindRetry => exact State.command_sound calm calm.bindRetry.sound
  | intakeTinLifted =>
    unfold exec execIntakeTinLifted
    exact State.command_sound calm calm.modIntake.liftIntake.sound
  | transferStart => exact State.command_sound calm calm.startTransfer.sound
  | transferArrival => exact State.command_sound calm calm.arrive
  | transferTimeout => exact State.command_sound calm calm.expireTransfer.sound
  | dispensePresenceRise => exact State.command_sound calm calm.stationRise
  | dispensePresenceFall => exact State.command_sound calm calm.stationFall
  | weighSample =>
    unfold exec execWeighSample
    exact State.command_sound calm calm.withWeigh.sound
  | settledReading => exact State.command_sound calm calm.settleReading
  | settleWindowTimeout => exact State.command_sound calm (State.Sound.ite calm.settleAbsent calm.sound)
  | scaleFaultLineChange => exact State.command_sound calm calm.scaleFault
  | dispenseResumeOperation => exact State.command_sound calm calm.resumeStation
  | moveArrived => exact State.command_sound calm calm.moveArrived
  | moveTimeout => exact State.command_sound calm calm.moveExpires
  | homePass => exact State.command_sound calm calm.homePass.sound
  | homingComplete => exact State.command_sound calm calm.homingDone
  | homingTimeout => exact State.command_sound calm calm.homingExpires
  | pumpComplete => exact State.command_sound calm calm.pumpDone.sound
  | strokeTimeout =>
    unfold exec execStrokeTimeout
    refine State.command_sound calm ?_
    rw [if_neg calm]
    exact calm.sound
  | seatedSwitchOpen => exact State.command_sound calm calm.unseat.sound
  | seatedSwitchClose => exact State.command_sound calm calm.reseat
  | bayPresenceRise => exact State.command_sound calm calm.bayRise
  | bayPresenceFall => exact State.command_sound calm calm.bayFall.sound
  | bayBeginOperation =>
    unfold exec execBayBeginOperation
    exact State.command_sound calm (calm.whenBay (calm.beginBay.ite calm)).sound
  | bayClampClosedRise =>
    unfold exec execBayClampClosedRise
    exact State.command_sound calm (calm.modBay.whenBay calm.modBay.beginSpin).sound
  | bayClampTimeout =>
    unfold exec execBayClampTimeout
    exact State.command_sound calm (calm.whenBay calm.bayFault).sound
  | baySpinEnd =>
    unfold exec execBaySpinEnd
    exact State.command_sound calm (calm.whenBay calm.modBay.brakeBay).sound
  | bayImbalanceTrip =>
    unfold exec execBayImbalanceTrip
    exact State.command_sound calm (calm.whenBay calm.brakeBay).sound
  | bayClampClosedFall => exact State.command_sound calm calm.clampFall.sound
  | bayBrakeEnd =>
    unfold exec execBayBrakeEnd
    exact State.command_sound calm calm.brakeEnds.sound
  | bayUnclampTimeout =>
    unfold exec execBayUnclampTimeout
    exact State.command_sound calm (calm.whenBay calm.bayFault).sound
  | lidderTakeSource => exact State.command_sound calm calm.takeSource.sound
  | lidderBeginPlacing => exact State.command_sound calm calm.beginLidder.sound
  | lidPlaced =>
    unfold exec execLidPlaced
    exact State.command_sound calm (calm.whenLidder calm.modLidder.press).sound
  | lidPlaceTimeout =>
    unfold exec execLidPlaceTimeout
    exact State.command_sound calm (calm.whenLidder calm.modLidder.seatFault).sound
  | pressComplete =>
    unfold exec execPressComplete
    exact State.command_sound calm (calm.whenLidder calm.checkSeat).sound
  | lidderPresenceRise => exact State.command_sound calm calm.lidderRise
  | lidderPresenceFall =>
    unfold exec execLidderPresenceFall
    exact State.command_sound calm (calm.modLidder.whenLidder calm.modLidder.liftLidder).sound
  | lanePresenceRise => exact State.command_sound calm calm.laneRise
  | lanePresenceFall => exact State.command_sound calm calm.laneFall.sound
  | supplyWarning => exact execSupplyWarning_sound calm _ _
  | startUp => exact execStartUp_sound calm _ _ _
  | storeSaveEnd => exact State.command_sound calm calm.endSave.sound
  | lengthByteOver240 => exact State.command_sound calm (calm.frame rfl).sound

/-- Settles O51, from what every command does at a station without a stroke, and from the completion of a stroke. -/
theorem strokeBeginsOnlyWhenReady : Obligations.StrokeBeginsOnlyWhenReady := by
  intro c s t executed before stroking
  have sound : t.Sound := by
    rcases before with calm | ⟨working, k, x, e, rfl, current, pos⟩
    · obtain ⟨u, same, sound⟩ := exec_sound calm c
      cases executed.symm.trans same
      exact sound
    · have done : exec (.pumpComplete k) s = .next (s.pumpDone k).finish := State.command_of_working working _
      cases executed.symm.trans done
      exact (State.pumpDone_sound current pos k).finish
  exact sound stroking

end Sys2Proof.Machine
end
